-- ==== Sys2Proof/Word.lean ====
section
/-! DEFINITION. Machine words: the doubleword of the registers, the byte, an address, and a quadruple of
doublewords in the order EAX, EBX, ECX, EDX. -/

namespace Sys2Proof

/-- A doubleword, "A 32-bit value" (00_scope.md section 5.3; 10_state.md R10). -/
abbrev Word := BitVec 32

/-- A byte of program text or of a character string. -/
abbrev Byte := BitVec 8

/-- The storage of a program counter: wide enough for the widest value of the parameter PcWidth
(92_eei_decisions.md section 2; log 5). -/
abbrev Addr := BitVec 64

/-- The 48 bytes of a processor name string, byte 0 first (10_state.md R13). -/
abbrev NameString := Vector Byte 48

/-- The four doublewords that CPUID returns, named by the register that receives them (30_encoding.md R44).
The same shape carries the four draws of one execution, and the masks of the defined bits. -/
structure Quad where
  eax : Word
  ebx : Word
  ecx : Word
  edx : Word
  deriving DecidableEq, Repr, Inhabited

/-- The four words taken bit by bit under a mask. -/
def Quad.mask (q m : Quad) : Quad :=
  ⟨q.eax &&& m.eax, q.ebx &&& m.ebx, q.ecx &&& m.ecx, q.edx &&& m.edx⟩

/-- The complement of a mask. -/
def Quad.complement (m : Quad) : Quad := ⟨~~~m.eax, ~~~m.ebx, ~~~m.ecx, ~~~m.edx⟩

end Sys2Proof
end

