-- ==== Sys2Proof/Config.lean ====
section
/-! DEFINITION. What an implementation fixes: the configuration record `cfg` of a core (10_state.md R16 to R21),
field by field, the architecture's one constant string, and the values the spec leaves free. -/

namespace Sys2Proof

/-- Identity fields (10_state.md R16). The fixed field Vendor is the constant `Config.vendor` (log 18). -/
structure CfgIdentity where
  maxStdFn : Word
  maxExtFn : Word
  stepping : BitVec 4
  baseModel : BitVec 4
  baseFamily : BitVec 4
  extModel : BitVec 4
  extFamily : BitVec 8
  deriving DecidableEq, Repr, Inhabited

/-- Fields of Fn0000_0001 EBX, ECX and EDX (10_state.md R17). A feature bit is an opaque Boolean
(41_standard_functions.md R80). -/
structure CfgStandard where
  localApicId : BitVec 8
  /-- No value when HTT = 0: nothing then reads it (R71). -/
  logicalProcessorCount : BitVec 8
  clFlush : BitVec 8
  brandId8 : BitVec 8
  sse3 : Bool
  cmpxchg16b : Bool
  fpu : Bool
  vme : Bool
  de : Bool
  pse : Bool
  tsc : Bool
  msr : Bool
  pae : Bool
  mce : Bool
  cmpxchg8b : Bool
  apicExists : Bool
  sysEnterSysExit : Bool
  mtrr : Bool
  pge : Bool
  mca : Bool
  cmov : Bool
  pat : Bool
  pse36 : Bool
  clfsh : Bool
  mmx : Bool
  fxsr : Bool
  sse : Bool
  sse2 : Bool
  htt : Bool
  deriving DecidableEq, Repr, Inhabited

/-- Fields of Fn8000_0001 EBX, ECX and EDX that Fn0000_0001 does not hold (10_state.md R18). -/
structure CfgExtended where
  brandId : BitVec 16
  lahfSahf : Bool
  svm : Bool
  altMovCr8 : Bool
  cmpLegacy : Bool
  sysCallSysRet : Bool
  nx : Bool
  mmxExt : Bool
  ffxsr : Bool
  rdtscp : Bool
  lm : Bool
  threeDNowExt : Bool
  threeDNow : Bool
  deriving DecidableEq, Repr, Inhabited

/-- Fields of Fn8000_0005 (10_state.md R19). -/
structure CfgL1 where
  l1DTlb2and4MAssoc : BitVec 8
  l1DTlb2and4MSize : BitVec 8
  l1ITlb2and4MAssoc : BitVec 8
  l1ITlb2and4MSize : BitVec 8
  l1DTlb4KAssoc : BitVec 8
  l1DTlb4KSize : BitVec 8
  l1ITlb4KAssoc : BitVec 8
  l1ITlb4KSize : BitVec 8
  l1DcSize : BitVec 8
  l1DcAssoc : BitVec 8
  l1DcLinesPerTag : BitVec 8
  l1DcLineSize : BitVec 8
  l1IcSize : BitVec 8
  l1IcAssoc : BitVec 8
  l1IcLinesPerTag : BitVec 8
  l1IcLineSize : BitVec 8
  deriving DecidableEq, Repr, Inhabited

/-- Fields of Fn8000_0006 (10_state.md R20). -/
structure CfgL2 where
  l2DTlb2and4MAssoc : BitVec 4
  l2DTlb2and4MSize : BitVec 12
  l2ITlb2and4MAssoc : BitVec 4
  l2ITlb2and4MSize : BitVec 12
  l2DTlb4KAssoc : BitVec 4
  l2DTlb4KSize : BitVec 12
  l2ITlb4KAssoc : BitVec 4
  l2ITlb4KSize : BitVec 12
  l2Size : BitVec 16
  l2Assoc : BitVec 4
  l2LinesPerTag : BitVec 4
  l2LineSize : BitVec 8
  deriving DecidableEq, Repr, Inhabited

/-- Fields of Fn8000_0007, Fn8000_0008 and Fn8000_000A (10_state.md R21). -/
structure CfgPower where
  ts : Bool
  fid : Bool
  vid : Bool
  ttp : Bool
  tm : Bool
  stc : Bool
  tscInvariant : Bool
  physAddrSize : BitVec 8
  linAddrSize : BitVec 8
  nc : BitVec 8
  apicIdCoreIdSize : BitVec 4
  svmRev : BitVec 8
  nasid : Word
  deriving DecidableEq, Repr, Inhabited

/-- The configuration record of one core: constant for the whole run (10_state.md R23, R24). -/
structure Cfg extends CfgIdentity, CfgStandard, CfgExtended, CfgL1, CfgL2, CfgPower where
  deriving DecidableEq, Repr, Inhabited

namespace Config

/-- "AuthenticAMD", character 0 first: a constant of the architecture (41_standard_functions.md R66). -/
def vendor : Vector Byte 12 :=
  #v[0x41, 0x75, 0x74, 0x68, 0x65, 0x6E, 0x74, 0x69, 0x63, 0x41, 0x4D, 0x44]

/-- FREE VALUE. The configuration the implementation gave core `k`: no source states it (10_state.md R16 to R21,
93_implementation_defined.md U11; log 10). -/
opaque anyCfg : Nat → Cfg

/-- FREE VALUE. The draws `any(n)` of 00_scope.md section 5.2: on core `k`, at its execution number `n`, one free
doubleword for each result register, selected by its place in EAX, EBX, ECX, EDX (92_eei_decisions.md D12; log 12). -/
opaque anyWord : (k n place : Nat) → Word

/-- FREE VALUE. Whether the APIC of core `k` is enabled as its step number `n` begins: an input of the step
(10_state.md R14, 92_eei_decisions.md D17; log 13). -/
opaque apicInput : (k n : Nat) → Bool

/-- FREE VALUE. The parameter NameStringReset of core `k` (10_state.md R24, 92_eei_decisions.md D16; log 14). -/
opaque nameStringReset : (k : Nat) → NameString

/-- FREE VALUE. Whether the APIC of core `k` is enabled at reset: `any(1)` (10_state.md R24; log 13). -/
opaque apicEnabledReset : (k : Nat) → Bool

/-- The illustration of 95_test_vectors.md Part 3 with every field it leaves unsaid at a well-formed value. It stands for
no real part. `Config.coreCfg` falls back on it where the free record describes no processor in scope (log 11). -/
def illustration : Cfg where
  maxStdFn := 0x00000001
  maxExtFn := 0x80000008
  stepping := 0x2
  baseModel := 0x3
  baseFamily := 0xF
  extModel := 0x2
  extFamily := 0x00
  localApicId := 0x01
  logicalProcessorCount := 0x02
  clFlush := 0x08
  brandId8 := 0x00
  sse3 := true
  cmpxchg16b := false
  fpu := true
  vme := true
  de := true
  pse := true
  tsc := true
  msr := true
  pae := true
  mce := true
  cmpxchg8b := true
  apicExists := true
  sysEnterSysExit := true
  mtrr := true
  pge := true
  mca := true
  cmov := true
  pat := true
  pse36 := true
  clfsh := true
  mmx := true
  fxsr := true
  sse := true
  sse2 := true
  htt := true
  brandId := 0x0105
  lahfSahf := true
  svm := false
  altMovCr8 := false
  cmpLegacy := true
  sysCallSysRet := true
  nx := true
  mmxExt := true
  ffxsr := true
  rdtscp := true
  lm := true
  threeDNowExt := true
  threeDNow := true
  l1DTlb2and4MAssoc := 0xFF
  l1DTlb2and4MSize := 0x08
  l1ITlb2and4MAssoc := 0xFF
  l1ITlb2and4MSize := 0x08
  l1DTlb4KAssoc := 0xFF
  l1DTlb4KSize := 0x20
  l1ITlb4KAssoc := 0xFF
  l1ITlb4KSize := 0x20
  l1DcSize := 0x40
  l1DcAssoc := 0x02
  l1DcLinesPerTag := 0x01
  l1DcLineSize := 0x40
  l1IcSize := 0x40
  l1IcAssoc := 0x02
  l1IcLinesPerTag := 0x01
  l1IcLineSize := 0x40
  l2DTlb2and4MAssoc := 0x0
  l2DTlb2and4MSize := 0x000
  l2ITlb2and4MAssoc := 0x0
  l2ITlb2and4MSize := 0x000
  l2DTlb4KAssoc := 0x4
  l2DTlb4KSize := 0x200
  l2ITlb4KAssoc := 0x4
  l2ITlb4KSize := 0x200
  l2Size := 0x0400
  l2Assoc := 0x8
  l2LinesPerTag := 0x1
  l2LineSize := 0x40
  ts := true
  fid := true
  vid := true
  ttp := true
  tm := false
  stc := false
  tscInvariant := false
  physAddrSize := 0x28
  linAddrSize := 0x30
  nc := 0x01
  apicIdCoreIdSize := 0x0
  svmRev := 0x01
  nasid := 0x00000040

end Config
end Sys2Proof
end

