-- ==== Sys2Proof/Syntax.lean ====
section
/-! DEFINITION. The instruction set as syntax: one constructor per row of spec/opcode_table.json. The table has
one row for the instruction as bytes (CPUID) and 28 rows for the function numbers the source names; a function
row is CPUID executed with that number in EAX (40_cpuid_instruction.md R51; log 2). -/

namespace Sys2Proof

/-- The rows of the opcode table. No row has an explicit operand (30_encoding.md R41): the implicit selector,
the value of EAX, is what tells the function rows apart. -/
inductive Instr where
  /-- CPUID, the instruction, whatever function number EAX holds (40_cpuid_instruction.md R50). -/
  | cpuid
  /-- EAX = 0000_0000h: Processor Vendor and Largest Standard Function Number (41_standard_functions.md R65, R66). -/
  | cpuidFn0000_0000
  /-- EAX = 0000_0001h: Family, Model, Stepping Identifiers; LocalApicId, LogicalProcessorCount, CLFlush, 8BitBrandId; Feature Identifiers (R67). -/
  | cpuidFn0000_0001
  /-- EAX = 8000_0000h: Processor Vendor and Largest Extended Function Number (42_extended_identity.md R90, R91). -/
  | cpuidFn8000_0000
  /-- EAX = 8000_0001h: AMD Family, Model, Stepping; BrandId Identifier; Feature Identifiers (R93). -/
  | cpuidFn8000_0001
  /-- EAX = 8000_0002h: Processor Name String Identifier, characters 0 to 15 (R108). -/
  | cpuidFn8000_0002
  /-- EAX = 8000_0003h: Processor Name String Identifier, characters 16 to 31 (R108). -/
  | cpuidFn8000_0003
  /-- EAX = 8000_0004h: Processor Name String Identifier, characters 32 to 47 (R108). -/
  | cpuidFn8000_0004
  /-- EAX = 8000_0005h: L1 Cache and TLB Identifiers (43_extended_cache_tlb.md R120). -/
  | cpuidFn8000_0005
  /-- EAX = 8000_0006h: L2 Cache and L2 TLB Identifiers (R126). -/
  | cpuidFn8000_0006
  /-- EAX = 8000_0007h: Advanced Power Management Information (44_extended_power_addr_svm.md R140). -/
  | cpuidFn8000_0007
  /-- EAX = 8000_0008h: Long Mode Address Size Identifiers (R145). -/
  | cpuidFn8000_0008
  /-- EAX = 8000_0009h: Reserved (R150). -/
  | cpuidFn8000_0009
  /-- EAX = 8000_000Ah: SVM Revision and Feature Identification (R151). -/
  | cpuidFn8000_000A
  /-- EAX = 8000_000Bh: Reserved (R154). -/
  | cpuidFn8000_000B
  /-- EAX = 8000_000Ch: Reserved (R154). -/
  | cpuidFn8000_000C
  /-- EAX = 8000_000Dh: Reserved (R154). -/
  | cpuidFn8000_000D
  /-- EAX = 8000_000Eh: Reserved (R154). -/
  | cpuidFn8000_000E
  /-- EAX = 8000_000Fh: Reserved (R154). -/
  | cpuidFn8000_000F
  /-- EAX = 8000_0010h: Reserved (R154). -/
  | cpuidFn8000_0010
  /-- EAX = 8000_0011h: Reserved (R154). -/
  | cpuidFn8000_0011
  /-- EAX = 8000_0012h: Reserved (R154). -/
  | cpuidFn8000_0012
  /-- EAX = 8000_0013h: Reserved (R154). -/
  | cpuidFn8000_0013
  /-- EAX = 8000_0014h: Reserved (R154). -/
  | cpuidFn8000_0014
  /-- EAX = 8000_0015h: Reserved (R154). -/
  | cpuidFn8000_0015
  /-- EAX = 8000_0016h: Reserved (R154). -/
  | cpuidFn8000_0016
  /-- EAX = 8000_0017h: Reserved (R154). -/
  | cpuidFn8000_0017
  /-- EAX = 8000_0018h: Reserved (R154). -/
  | cpuidFn8000_0018
  /-- EAX = 8000_0019h: Reserved (R154). -/
  | cpuidFn8000_0019
  deriving DecidableEq, Repr

/-- The function number a function row stands for; the row CPUID stands for no one number (30_encoding.md R45). -/
def Instr.functionNumber : Instr → Option Word
  | .cpuid => none
  | .cpuidFn0000_0000 => some 0x00000000#32
  | .cpuidFn0000_0001 => some 0x00000001#32
  | .cpuidFn8000_0000 => some 0x80000000#32
  | .cpuidFn8000_0001 => some 0x80000001#32
  | .cpuidFn8000_0002 => some 0x80000002#32
  | .cpuidFn8000_0003 => some 0x80000003#32
  | .cpuidFn8000_0004 => some 0x80000004#32
  | .cpuidFn8000_0005 => some 0x80000005#32
  | .cpuidFn8000_0006 => some 0x80000006#32
  | .cpuidFn8000_0007 => some 0x80000007#32
  | .cpuidFn8000_0008 => some 0x80000008#32
  | .cpuidFn8000_0009 => some 0x80000009#32
  | .cpuidFn8000_000A => some 0x8000000A#32
  | .cpuidFn8000_000B => some 0x8000000B#32
  | .cpuidFn8000_000C => some 0x8000000C#32
  | .cpuidFn8000_000D => some 0x8000000D#32
  | .cpuidFn8000_000E => some 0x8000000E#32
  | .cpuidFn8000_000F => some 0x8000000F#32
  | .cpuidFn8000_0010 => some 0x80000010#32
  | .cpuidFn8000_0011 => some 0x80000011#32
  | .cpuidFn8000_0012 => some 0x80000012#32
  | .cpuidFn8000_0013 => some 0x80000013#32
  | .cpuidFn8000_0014 => some 0x80000014#32
  | .cpuidFn8000_0015 => some 0x80000015#32
  | .cpuidFn8000_0016 => some 0x80000016#32
  | .cpuidFn8000_0017 => some 0x80000017#32
  | .cpuidFn8000_0018 => some 0x80000018#32
  | .cpuidFn8000_0019 => some 0x80000019#32

/-- Every constructor, in the order of the opcode table. -/
def Instr.all : List Instr :=
  [.cpuid,
   .cpuidFn0000_0000, .cpuidFn0000_0001, .cpuidFn8000_0000, .cpuidFn8000_0001,
   .cpuidFn8000_0002, .cpuidFn8000_0003, .cpuidFn8000_0004, .cpuidFn8000_0005,
   .cpuidFn8000_0006, .cpuidFn8000_0007, .cpuidFn8000_0008, .cpuidFn8000_0009,
   .cpuidFn8000_000A, .cpuidFn8000_000B, .cpuidFn8000_000C, .cpuidFn8000_000D,
   .cpuidFn8000_000E, .cpuidFn8000_000F, .cpuidFn8000_0010, .cpuidFn8000_0011,
   .cpuidFn8000_0012, .cpuidFn8000_0013, .cpuidFn8000_0014, .cpuidFn8000_0015,
   .cpuidFn8000_0016, .cpuidFn8000_0017, .cpuidFn8000_0018, .cpuidFn8000_0019]

end Sys2Proof
end

