-- ==== Sys2Proof/WellFormed.lean ====
section
/-! DEFINITION. Checks on the data of the model: the instruction with its implicit operand, the configuration of a
core (10_state.md R22), the configurations of a processor's cores (R22 item 6), and the string the BIOS may program. -/

namespace Sys2Proof

/-- The function numbers the source names (30_encoding.md R45): those of the function rows. -/
def namedFunctions : List Word := Instr.all.filterMap Instr.functionNumber

/-- An instruction and its implicit operand, the value of EAX, belong together: a function row goes with its own
number, the row CPUID with a number that no function row has (30_encoding.md R41, R45). -/
def Instr.wellFormedFor (i : Instr) (eax : Word) : Bool :=
  match i.functionNumber with
  | some fn => decide (eax = fn)
  | none => !namedFunctions.contains eax

/-- The 8-bit associativity code holds no reserved encoding (43_extended_cache_tlb.md R121, 10_state.md R19). -/
def assoc8Valid (a : BitVec 8) : Bool := decide (a ≠ 0x00#8)

/-- The 4-bit associativity code holds one of the seven encodings of Table 1 (43_extended_cache_tlb.md R127). -/
def assoc4Valid (a : BitVec 4) : Bool := [0x0#4, 0x1#4, 0x2#4, 0x4#4, 0x6#4, 0x8#4, 0xF#4].contains a

/-- One row of Table 3 (45_core_thread_count.md R162). `none` is the table's "Reserved". -/
structure CoreFields where
  cmpLegacy : Bool
  htt : Bool
  logicalProcessorCount : Option Nat
  nc : Nat
  deriving DecidableEq, Repr

/-- Table 3, forward: the fields as a function of the cores per processor `c` and the threads per core `t`
(45_core_thread_count.md R162). -/
def table3 (c t : Nat) : CoreFields where
  cmpLegacy := decide (2 ≤ c ∧ t = 1)
  htt := decide (1 < c * t)
  logicalProcessorCount := if 1 < c * t then some (c * t) else none
  nc := c - 1

/-- The configuration holds the values of a row of Table 3. A "Reserved" count has no value to hold. -/
def Cfg.holdsRow (cfg : Cfg) (row : CoreFields) : Bool :=
  (cfg.cmpLegacy == row.cmpLegacy) && (cfg.htt == row.htt) && (cfg.nc.toNat == row.nc) &&
    match row.logicalProcessorCount with
    | some n => cfg.logicalProcessorCount.toNat == n
    | none => true

/-- Item 1 of 10_state.md R22: the bounds of the two ranges (40_cpuid_instruction.md R53). -/
def Cfg.rangesValid (cfg : Cfg) : Bool :=
  decide (0x00000001#32 ≤ cfg.maxStdFn) && decide (cfg.maxStdFn < 0x80000000#32) &&
    decide (0x80000000#32 ≤ cfg.maxExtFn)

/-- Item 2 of 10_state.md R22: the family is 0Fh or greater and fits 8 bits (41_standard_functions.md R69, R70). -/
def Cfg.familyValid (cfg : Cfg) : Bool :=
  decide (cfg.baseFamily = 0xF#4) && decide (cfg.extFamily ≤ 0xF0#8)

/-- Item 3 of 10_state.md R22: the core fields are a row of Table 3 with one thread per core. The number of cores can
only be NC + 1, so no search is needed (log 23). -/
def Cfg.coresValid (cfg : Cfg) : Bool := cfg.holdsRow (table3 (cfg.nc.toNat + 1) 1)

/-- Item 4 of 10_state.md R22: no associativity field holds a reserved encoding. -/
def Cfg.assocValid (cfg : Cfg) : Bool :=
  [cfg.l1DTlb2and4MAssoc, cfg.l1ITlb2and4MAssoc, cfg.l1DTlb4KAssoc, cfg.l1ITlb4KAssoc, cfg.l1DcAssoc,
    cfg.l1IcAssoc].all assoc8Valid &&
  [cfg.l2DTlb2and4MAssoc, cfg.l2ITlb2and4MAssoc, cfg.l2DTlb4KAssoc, cfg.l2ITlb4KAssoc, cfg.l2Assoc].all assoc4Valid

/-- NC + 1 <= MNC: "the actual number of cores cannot exceed the theoretical maximum" (44_extended_power_addr_svm.md R149,
which gives this as a consistency of every well-formed configuration; log 23). With ApicIdCoreIdSize = 0, MNC is NC + 1. -/
def Cfg.coresFitMaximum (cfg : Cfg) : Bool :=
  decide (cfg.apicIdCoreIdSize = 0#4) || decide (cfg.nc.toNat + 1 ≤ 2 ^ cfg.apicIdCoreIdSize.toNat)

/-- The configuration describes a processor the source covers: items 1 to 4 of 10_state.md R22 and the consistency of
44_extended_power_addr_svm.md R149. Item 5 holds of every configuration, the vendor string being a constant (log 18); item 6
is `processorWellFormed`. -/
def Cfg.wellFormed (cfg : Cfg) : Bool :=
  cfg.rangesValid && cfg.familyValid && cfg.coresValid && cfg.assocValid && cfg.coresFitMaximum

/-- The fields that describe the processor and not the core are equal (10_state.md R23, 45_core_thread_count.md R165).
LogicalProcessorCount is compared only where HTT gives it a value. -/
def Cfg.sameProcessor (a b : Cfg) : Bool :=
  (a.htt == b.htt) && (a.cmpLegacy == b.cmpLegacy) && (a.nc == b.nc) && (a.apicIdCoreIdSize == b.apicIdCoreIdSize) &&
    (!a.htt || a.logicalProcessorCount == b.logicalProcessorCount)

/-- No two of the cores have the same LocalApicId: it "differs between cores" and tells them apart (10_state.md R23,
45_core_thread_count.md R165, 92_eei_decisions.md D15; log 19). -/
def localApicIdsDistinct (cores : List Cfg) : Bool := decide (cores.map (fun c => c.localApicId)).Nodup

/-- The configurations of the cores of one processor: each well formed, as many as NC says, equal in the fields that
describe the processor, and told apart by LocalApicId (10_state.md R22 item 6, R23; 45_core_thread_count.md R161, R165). -/
def processorWellFormed (cores : List Cfg) : Bool :=
  cores.all Cfg.wellFormed && cores.all (fun a => cores.all (fun b => a.sameProcessor b)) &&
    cores.all (fun a => cores.length == a.nc.toNat + 1) && localApicIdsDistinct cores

/-- The precondition of the host action SetNameString: ASCII, with a null byte (70_reset_and_hazards.md R188). -/
def NameString.programmable (name : NameString) : Bool :=
  name.toList.all (fun b => decide (b < 0x80#8)) && name.toList.contains 0x00#8

/-- The free record where it describes a processor in scope, else the illustration (log 11). -/
def Config.inScope (cfg : Cfg) : Cfg := if cfg.wellFormed then cfg else Config.illustration

/-- The LocalApicId of each of the first `n` cores, by core: the free records', where those differ, else the number of
the core (log 19). -/
def Config.apicIds (n : Nat) : List (BitVec 8) :=
  let free := (List.range n).map (fun k => (Config.anyCfg k).localApicId)
  if free.Nodup then free else (List.range n).map (BitVec.ofNat 8)

/-- The configuration of core `k` of the processor: free, but for the conditions of 10_state.md R22 and R23. The five
fields that describe the processor are core 0's, and LocalApicId tells the cores apart (45_core_thread_count.md R165;
log 10, 19). -/
def Config.coreCfg (k : Nat) : Cfg :=
  let lead := Config.inScope (Config.anyCfg 0)
  { Config.inScope (Config.anyCfg k) with
    htt := lead.htt
    cmpLegacy := lead.cmpLegacy
    logicalProcessorCount := lead.logicalProcessorCount
    nc := lead.nc
    apicIdCoreIdSize := lead.apicIdCoreIdSize
    localApicId := (Config.apicIds (lead.nc.toNat + 1)).getD k (Config.anyCfg k).localApicId }

end Sys2Proof
end

