-- ==== Sys2Proof/Decode.lean ====
section
/-! DEFINITION. From bytes and the selector to an instruction, and back. Decoding has two levels, as 30_encoding.md
has: the instruction CPUID as bytes (R40, R42), and the function number in EAX, "the real opcode map of this spec"
(R45). The encoder follows it. -/

namespace Sys2Proof

/-- Why bytes give no instruction. -/
inductive DecodeError where
  /-- The bytes end before the instruction does. -/
  | incomplete
  /-- CPUID preceded by one or more bytes of the classes 30_encoding.md R42 names. -/
  | prefixedCpuid
  /-- Any other bytes: an instruction that no source describes (00_scope.md section 3). -/
  | notCpuid
  deriving DecidableEq, Repr

/-- First byte of CPUID (30_encoding.md R40; log 1). -/
def opcodeByte0 : Byte := 0x0F#8

/-- Second byte of CPUID (30_encoding.md R40; log 1). -/
def opcodeByte1 : Byte := 0xA2#8

/-- The bytes of the classes that 30_encoding.md R42 lists: operand size, address size, segment, LOCK, REP and REPNE, REX.
R42 gives no byte values: PRESUMED, the architecture's (log 3). -/
def isPrefixByte (b : Byte) : Bool :=
  [0x66#8, 0x67#8, 0x26#8, 0x2E#8, 0x36#8, 0x3E#8, 0x64#8, 0x65#8, 0xF0#8, 0xF2#8, 0xF3#8].contains b ||
    (decide (0x40#8 ≤ b) && decide (b ≤ 0x4F#8))

/-- How bytes that follow a byte of `isPrefixByte` are refused: by name where they are CPUID (30_encoding.md R42). -/
def prefixedForm : List Byte → DecodeError
  | [] => .incomplete
  | b :: rest =>
    if isPrefixByte b then prefixedForm rest
    else if b = opcodeByte0 then
      match rest with
      | [] => .incomplete
      | b1 :: _ => if b1 = opcodeByte1 then .prefixedCpuid else .notCpuid
    else .notCpuid

/-- The bytes as an instruction, with the bytes after it: exactly the two-byte sequence of 30_encoding.md R40 is CPUID. -/
def decodeBytes : List Byte → Except DecodeError (Instr × List Byte)
  | [] => .error .incomplete
  | b :: rest =>
    if b = opcodeByte0 then
      match rest with
      | [] => .error .incomplete
      | b1 :: tail => if b1 = opcodeByte1 then .ok (.cpuid, tail) else .error .notCpuid
    else if isPrefixByte b then .error (prefixedForm rest)
    else .error .notCpuid

/-- The function-select map (30_encoding.md R45): the function numbers the source names, each with its row. -/
def functionMap : List (Word × Instr) :=
  [
    (0x00000000#32, .cpuidFn0000_0000),
    (0x00000001#32, .cpuidFn0000_0001),
    (0x80000000#32, .cpuidFn8000_0000),
    (0x80000001#32, .cpuidFn8000_0001),
    (0x80000002#32, .cpuidFn8000_0002),
    (0x80000003#32, .cpuidFn8000_0003),
    (0x80000004#32, .cpuidFn8000_0004),
    (0x80000005#32, .cpuidFn8000_0005),
    (0x80000006#32, .cpuidFn8000_0006),
    (0x80000007#32, .cpuidFn8000_0007),
    (0x80000008#32, .cpuidFn8000_0008),
    (0x80000009#32, .cpuidFn8000_0009),
    (0x8000000A#32, .cpuidFn8000_000A),
    (0x8000000B#32, .cpuidFn8000_000B),
    (0x8000000C#32, .cpuidFn8000_000C),
    (0x8000000D#32, .cpuidFn8000_000D),
    (0x8000000E#32, .cpuidFn8000_000E),
    (0x8000000F#32, .cpuidFn8000_000F),
    (0x80000010#32, .cpuidFn8000_0010),
    (0x80000011#32, .cpuidFn8000_0011),
    (0x80000012#32, .cpuidFn8000_0012),
    (0x80000013#32, .cpuidFn8000_0013),
    (0x80000014#32, .cpuidFn8000_0014),
    (0x80000015#32, .cpuidFn8000_0015),
    (0x80000016#32, .cpuidFn8000_0016),
    (0x80000017#32, .cpuidFn8000_0017),
    (0x80000018#32, .cpuidFn8000_0018),
    (0x80000019#32, .cpuidFn8000_0019)]

/-- The row that a CPUID with this selector is: the function row of that number, or the row CPUID itself for a number
the source does not name (30_encoding.md R43, R45; 40_cpuid_instruction.md R51). -/
def selectFunction (eax : Word) : Instr := (functionMap.lookup eax).getD .cpuid

/-- The instruction that bytes and the selector name, with the bytes after it. -/
def decode (bytes : List Byte) (eax : Word) : Except DecodeError (Instr × List Byte) :=
  match decodeBytes bytes with
  | .ok (_, rest) => .ok (selectFunction eax, rest)
  | .error e => .error e

/-- The bytes of an instruction: every row is the instruction CPUID, which is always 2 bytes (30_encoding.md R40, R48). The
other half of a function row's encoding, the value of EAX, is `Instr.functionNumber`. -/
def encode (_ : Instr) : List Byte := [opcodeByte0, opcodeByte1]

/-- The two bytes of a 16-bit table word, which the table writes {byte0, byte1} (30_encoding.md R40). -/
def tableBytes (w : Nat) : List Byte := [BitVec.ofNat 8 (w / 256), BitVec.ofNat 8 w]

/-- A table row of more than 16 bits is a function row: its bits are the value of EAX, "not instruction bits". -/
def isFunctionRow (nbits : Nat) : Bool := decide (16 < nbits)

/-- The bytes that stand in memory for a table row's word. -/
def rowBytes (nbits w : Nat) : List Byte := if isFunctionRow nbits then encode .cpuid else tableBytes w

/-- The instruction the decoder reads from a row of spec/opcode_table.json whose bits are `w`. A row of 16 bits is
instruction bytes, read by `decodeBytes`; a row of 32 bits is CPUID with `w` in EAX (log 2). -/
def decodeTableWord (nbits w : Nat) : Option Instr :=
  if isFunctionRow nbits then (decode (rowBytes nbits w) (BitVec.ofNat 32 w)).toOption.map Prod.fst
  else (decodeBytes (rowBytes nbits w)).toOption.map Prod.fst

end Sys2Proof
end

