-- ==== Sys2Proof/Machine/State.lean ====
section
/-! DEFINITION. The state of one core as plain data, the reasons a step can stop, and the machine after reset. -/

namespace Sys2Proof.Machine

/-- The parameter PcWidth (10_state.md R12; 92_eei_decisions.md section 2: 16, 32 or 64 on the architecture; log 5). -/
inductive PcWidth where
  | w16
  | w32
  | w64
  deriving DecidableEq, Repr

/-- The four general registers of the source (10_state.md R10). -/
inductive Reg where
  | eax
  | ebx
  | ecx
  | edx
  deriving DecidableEq, Repr

/-- Program text: bytes at addresses, strictly rising. CPUID has no other memory (20_memory.md R31, R38; log 8). -/
abbrev Memory := List Host.Cell

/-- The state of one core. -/
structure State where
  /-- EAX, EBX, ECX, EDX (10_state.md R10). -/
  eax : Word
  ebx : Word
  ecx : Word
  edx : Word
  /-- Address of the first byte of the instruction being executed (10_state.md R12). -/
  pc : Addr
  /-- The parameter PcWidth, carried in the state; no step changes it. -/
  pcWidth : PcWidth
  /-- Program text. No instruction of the spec writes it. -/
  mem : Memory
  /-- The configuration record of this core (10_state.md R16 to R23). A parameter of the step, constant for the whole
  run, carried here so that a statement about every state is one about every configuration (log 10). -/
  cfg : Cfg
  /-- `st.NameString` (10_state.md R13). -/
  nameString : NameString
  /-- `st.ApicEnabled` (10_state.md R14). -/
  apicEnabled : Bool
  /-- The model's own: which core of the processor this is, so that no two cores share a free value (log 12, 19). -/
  coreIndex : Nat
  /-- The model's own: how many executions of CPUID have taken their draws (log 12). -/
  drawCount : Nat
  /-- The model's own: how many steps have begun (log 13, 14). -/
  stepCount : Nat
  deriving DecidableEq, Repr

/-- Why the machine stops with a fault. -/
inductive Fault where
  /-- The fetch: memory holds no byte at an address of the instruction. "A fetch that cannot be performed" is left to the
  embedding model (20_memory.md R34). SAFE: the machine stops where hardware would go on or trap (log 8). -/
  | fetchAbsent (address : Addr)
  deriving DecidableEq, Repr

/-- Why the model declines a program. -/
inductive Refusal where
  /-- An arm of `exec` whose instruction has no meaning yet. No arm raises it. SAFE. -/
  | notModelled (mnemonic : String)
  /-- The step: CPUID preceded by a byte of the classes of 30_encoding.md R42, whose behaviour no source gives. SAFE. -/
  | prefixedCpuid
  /-- The step: bytes that are no CPUID. Every other instruction is out of scope (00_scope.md section 3). SAFE. -/
  | outsideSpec
  deriving DecidableEq, Repr

/-- Core `k` right after reset. The source gives no value for a register or the program counter: zero is the model's
choice (log 6, 7). Everything the spec makes a parameter or a draw is a free value: `cfg` (log 10), the name
string (log 14), the APIC condition (log 13). Memory lists nothing (log 8, 9). -/
def State.resetCore (k : Nat) : State where
  eax := 0
  ebx := 0
  ecx := 0
  edx := 0
  pc := 0
  pcWidth := .w32
  mem := []
  cfg := Config.coreCfg k
  nameString := Config.nameStringReset k
  apicEnabled := Config.apicEnabledReset k
  coreIndex := k
  drawCount := 0
  stepCount := 0

/-- The machine right after reset: core 0 (10_state.md R24, 70_reset_and_hazards.md R185). -/
def State.reset : State := State.resetCore 0

end Sys2Proof.Machine
end

