-- ==== Sys2Proof/Machine/Operands.lean ====
section
/-! DEFINITION. The operands of CPUID: one implicit selector, EAX, and four implicit results, EAX, EBX, ECX and EDX
(30_encoding.md R41), and the fields of a returned word (R49). -/

namespace Sys2Proof.Machine

/-- Read of the 32-bit general register of that name, `x[r]` (10_state.md R10). None is hardwired. -/
def State.readReg (s : State) : Reg → Word
  | .eax => s.eax
  | .ebx => s.ebx
  | .ecx => s.ecx
  | .edx => s.edx

/-- Write of a general register, `x[r] <- v` (10_state.md R10). -/
def State.writeReg (s : State) (r : Reg) (v : Word) : State :=
  match r with
  | .eax => { s with eax := v }
  | .ebx => { s with ebx := v }
  | .ecx => { s with ecx := v }
  | .edx => { s with edx := v }

/-- The function number: the whole 32-bit value of EAX, no bit of it ignored (30_encoding.md R41). -/
def State.selector (s : State) : Word := s.readReg .eax

/-- The four results, written together (20_memory.md R35): result 0 to EAX, 1 to EBX, 2 to ECX, 3 to EDX. -/
def State.writeResults (s : State) (r : Quad) : State :=
  { s with eax := r.eax, ebx := r.ebx, ecx := r.ecx, edx := r.edx }

/-- The four general registers as one quadruple. -/
def State.regs (s : State) : Quad := ⟨s.eax, s.ebx, s.ecx, s.edx⟩

/-- Bits `hi` down to `lo` of a word, both ends included: an unsigned number (00_scope.md R7, 30_encoding.md R49). -/
def field (v : Word) (hi lo : Nat) : BitVec (hi - lo + 1) := v.extractLsb hi lo

/-- One bit of a word. -/
def bit (v : Word) (i : Nat) : Bool := v.getLsbD i

end Sys2Proof.Machine
end

