-- ==== Sys2Proof/Machine/Ops.lean ====
section
/-! DEFINITION. The named operations over memory, the program counter, the free values and the ranges of function numbers, and
the one shared execution of CPUID. There is no operation that takes an exception: CPUID raises none
(60_exceptions.md R170) and "a model built from this spec has no trap mechanism" (R175). -/

namespace Sys2Proof.Machine

/-- The byte at an address. Nothing is there where memory lists nothing (log 8). -/
def Memory.read : Memory → Nat → Option Byte
  | [], _ => none
  | (a, b) :: rest, x => if x = a then some b else Memory.read rest x

/-- Memory with a byte placed at an address: how text is loaded from outside. No instruction calls it (20_memory.md R31). -/
def Memory.write : Memory → Nat → Byte → Memory
  | [], x, v => [(x, v)]
  | (a, b) :: rest, x, v =>
    if x < a then (x, v) :: (a, b) :: rest
    else if x = a then (x, v) :: rest
    else (a, b) :: Memory.write rest x v

/-- The canonical form: addresses strictly rising. An unlisted address reads as no byte, so no entry can equal it. -/
def Memory.wf : Memory → Bool
  | [] => true
  | (a, _) :: rest => rest.all (fun c => decide (a < c.1)) && Memory.wf rest

/-- The number of bits of a program counter. -/
def PcWidth.bits : PcWidth → Nat
  | .w16 => 16
  | .w32 => 32
  | .w64 => 64

/-- An address reduced to the width of the program counter (10_state.md R12 leaves wrap-around open; log 5). -/
def PcWidth.wrap (w : PcWidth) (a : Addr) : Addr := (a.setWidth w.bits).setWidth 64

/-- The address `n` bytes after `a`. -/
def State.addressAfter (s : State) (a : Addr) (n : Addr) : Addr := s.pcWidth.wrap (a + n)

/-- `pc <- pc + 2` (10_state.md R12). -/
def State.nextPc (s : State) : Addr := s.addressAfter s.pc 2

/-- The longest instruction of the architecture: PRESUMED (log 4). It bounds what one fetch looks at. -/
def fetchWindow : Nat := 15

/-- The bytes from an address on, at ascending addresses (20_memory.md R33), up to the first address that holds none. -/
def State.bytesFrom (s : State) : Nat → Addr → List Byte
  | 0, _ => []
  | n + 1, a =>
    match Memory.read s.mem a.toNat with
    | none => []
    | some b => b :: State.bytesFrom s n (s.addressAfter a 1)

/-- The bytes a fetch sees at the program counter. No alignment is required (20_memory.md R34). -/
def State.fetchBytes (s : State) : List Byte := s.bytesFrom fetchWindow s.pc

/-- Bytes placed from an address on. -/
def State.loadBytes (s : State) : Addr → List Byte → State
  | _, [] => s
  | a, b :: rest => State.loadBytes { s with mem := Memory.write s.mem a.toNat b } (s.addressAfter a 1) rest

/-- The environment's input of one step: the APIC-enabled condition, which "may differ from step to step"
(10_state.md R14, 92_eei_decisions.md D17; log 13). -/
def State.takeInput (s : State) : State :=
  { s with apicEnabled := Config.apicInput s.coreIndex s.stepCount, stepCount := s.stepCount + 1 }

/-- The four draws of this core's next execution of CPUID, one for each result register (log 12). -/
def State.draws (s : State) : Quad where
  eax := Config.anyWord s.coreIndex s.drawCount 0
  ebx := Config.anyWord s.coreIndex s.drawCount 1
  ecx := Config.anyWord s.coreIndex s.drawCount 2
  edx := Config.anyWord s.coreIndex s.drawCount 3

/-- The standard range (40_cpuid_instruction.md R54). -/
def isStandard (cfg : Cfg) (fn : Word) : Bool := decide (fn ≤ cfg.maxStdFn)

/-- The extended range (40_cpuid_instruction.md R54). -/
def isExtended (cfg : Cfg) (fn : Word) : Bool := decide (0x80000000#32 ≤ fn) && decide (fn ≤ cfg.maxExtFn)

/-- The undefined functions: neither standard nor extended (40_cpuid_instruction.md R54, R55). -/
def isUndefined (cfg : Cfg) (fn : Word) : Bool := !isStandard cfg fn && !isExtended cfg fn

/-- `Unspecified()`: four independent draws (40_cpuid_instruction.md R56). -/
def unspecified (d : Quad) : Quad := d

/-- One execution of CPUID that returns `r`: the four registers and the program counter are written together, and nothing
else of the spec's state is (40_cpuid_instruction.md R50). The draws are used up. -/
def State.completeCpuid (s : State) (r : Quad) : State :=
  { s.writeResults r with pc := s.nextPc, drawCount := s.drawCount + 1 }

/-- The words of a standard function, where the core has it, else four draws (40_cpuid_instruction.md R52, R55). -/
def standardWords (cfg : Cfg) (d : Quad) (fn : Word) (words : Quad) : Quad :=
  if isStandard cfg fn then words else unspecified d

/-- The words of an extended function, where the core has it, else four draws (40_cpuid_instruction.md R52, R55). -/
def extendedWords (cfg : Cfg) (d : Quad) (fn : Word) (words : Quad) : Quad :=
  if isExtended cfg fn then words else unspecified d

/-- CPUID executed with the number of a standard function in EAX (40_cpuid_instruction.md R51). -/
def State.runStandard (s : State) (fn : Word) (words : Quad) : Host.Outcome State Fault Refusal :=
  .next (s.completeCpuid (standardWords s.cfg s.draws fn words))

/-- CPUID executed with the number of an extended function in EAX (40_cpuid_instruction.md R51). -/
def State.runExtended (s : State) (fn : Word) (words : Quad) : Host.Outcome State Fault Refusal :=
  .next (s.completeCpuid (extendedWords s.cfg s.draws fn words))

end Sys2Proof.Machine
end

