-- ==== Sys2Proof/Machine/ExtendedCacheTlb.lean ====
section
/-! DEFINITION. Extended functions Fn8000_0005 and Fn8000_0006, cache and TLB identifiers (43_extended_cache_tlb.md). -/

namespace Sys2Proof.Machine

/-- Fn8000_0005 (43_extended_cache_tlb.md R120): EAX is R122, EBX R123, ECX R124, EDX R125. No bit is reserved. -/
def fn8000_0005 (cfg : Cfg) : Quad where
  eax := cfg.l1DTlb2and4MAssoc ++ cfg.l1DTlb2and4MSize ++ cfg.l1ITlb2and4MAssoc ++ cfg.l1ITlb2and4MSize
  ebx := cfg.l1DTlb4KAssoc ++ cfg.l1DTlb4KSize ++ cfg.l1ITlb4KAssoc ++ cfg.l1ITlb4KSize
  ecx := cfg.l1DcSize ++ cfg.l1DcAssoc ++ cfg.l1DcLinesPerTag ++ cfg.l1DcLineSize
  edx := cfg.l1IcSize ++ cfg.l1IcAssoc ++ cfg.l1IcLinesPerTag ++ cfg.l1IcLineSize

/-- Fn8000_0006 (43_extended_cache_tlb.md R126): EAX is R129, EBX R130, ECX R131; EDX is reserved (R132, which has no L3
field: 90_conflicts.md C7). -/
def fn8000_0006 (cfg : Cfg) (d : Quad) : Quad where
  eax := cfg.l2DTlb2and4MAssoc ++ cfg.l2DTlb2and4MSize ++ cfg.l2ITlb2and4MAssoc ++ cfg.l2ITlb2and4MSize
  ebx := cfg.l2DTlb4KAssoc ++ cfg.l2DTlb4KSize ++ cfg.l2ITlb4KAssoc ++ cfg.l2ITlb4KSize
  ecx := cfg.l2Size ++ cfg.l2Assoc ++ cfg.l2LinesPerTag ++ cfg.l2LineSize
  edx := d.edx

/-- CPUID Fn8000_0005 (43_extended_cache_tlb.md R120). -/
def execCpuidFn8000_0005 (s : State) : Host.Outcome State Fault Refusal :=
  s.runExtended 0x80000005#32 (fn8000_0005 s.cfg)

/-- CPUID Fn8000_0006 (43_extended_cache_tlb.md R126). -/
def execCpuidFn8000_0006 (s : State) : Host.Outcome State Fault Refusal :=
  s.runExtended 0x80000006#32 (fn8000_0006 s.cfg s.draws)

end Sys2Proof.Machine
end

