-- ==== Sys2Proof/Machine/Flags.lean ====
section
/-! DEFINITION. Flags. The machine has no status flag: CPUID reads none and writes none (10_state.md R15). The flags of
this spec are the 1-bit feature fields of the words that CPUID returns. -/

namespace Sys2Proof.Machine

/-- A 1-bit feature field: 1 = supported, 0 = not supported (00_scope.md R4). -/
def featureBit (b : Bool) : BitVec 1 := BitVec.ofBool b

/-- The APIC feature bit: the APIC "exists and is enabled" (10_state.md R14). -/
def apicBit (cfg : Cfg) (apicEnabled : Bool) : Bool := cfg.apicExists && apicEnabled

end Sys2Proof.Machine
end

