-- ==== Sys2Proof/Machine/Standard.lean ====
section
/-! DEFINITION. Standard functions Fn0000_0000 and Fn0000_0001 (41_standard_functions.md). In a word, a field written
`d.extractLsb hi lo` is the draw `any(hi - lo + 1)` of a reserved field (log 12). -/

namespace Sys2Proof.Machine

/-- Four characters of the vendor string from character `k` on, the first in the least significant byte
(41_standard_functions.md R66, 20_memory.md R32). -/
def vendorWord (k : Fin 9) : Word :=
  Config.vendor[k.val + 3] ++ Config.vendor[k.val + 2] ++ Config.vendor[k.val + 1] ++ Config.vendor[k.val]

/-- The vendor string beside a range limit in EAX. It reads in the order EBX, EDX, ECX (R66, R91). -/
def vendorWords (limit : Word) : Quad where
  eax := limit
  ebx := vendorWord 0
  ecx := vendorWord 8
  edx := vendorWord 4

/-- Fn0000_0000 (41_standard_functions.md R65, R66). -/
def fn0000_0000 (cfg : Cfg) : Quad := vendorWords cfg.maxStdFn

/-- `Sig(cfg)`, the identification signature (41_standard_functions.md R68). The two reserved fields are RAZ
(90_conflicts.md C6; log 17). -/
def signature (cfg : Cfg) : Word :=
  0#4 ++ cfg.extFamily ++ cfg.extModel ++ 0#4 ++ cfg.baseFamily ++ cfg.baseModel ++ cfg.stepping

/-- `Misc1(cfg)`, Fn0000_0001_EBX (41_standard_functions.md R71, R73). -/
def misc1 (cfg : Cfg) (d : Word) : Word :=
  cfg.localApicId ++ (if cfg.htt then cfg.logicalProcessorCount else d.extractLsb 23 16) ++ cfg.clFlush ++ cfg.brandId8

/-- `Feat1C(cfg)`, Fn0000_0001_ECX (41_standard_functions.md R76): bit 31 is RAZ. -/
def feat1C (cfg : Cfg) (d : Word) : Word :=
  0#1 ++ d.extractLsb 30 14 ++ featureBit cfg.cmpxchg16b ++ d.extractLsb 12 1 ++ featureBit cfg.sse3

/-- `Feat1D(cfg, st)`, Fn0000_0001_EDX (41_standard_functions.md R78). -/
def feat1D (cfg : Cfg) (apicEnabled : Bool) (d : Word) : Word :=
  d.extractLsb 31 29 ++ featureBit cfg.htt ++ d.extractLsb 27 27 ++
    featureBit cfg.sse2 ++ featureBit cfg.sse ++ featureBit cfg.fxsr ++ featureBit cfg.mmx ++
    d.extractLsb 22 20 ++ featureBit cfg.clfsh ++ d.extractLsb 18 18 ++
    featureBit cfg.pse36 ++ featureBit cfg.pat ++ featureBit cfg.cmov ++ featureBit cfg.mca ++ featureBit cfg.pge ++
    featureBit cfg.mtrr ++ featureBit cfg.sysEnterSysExit ++ d.extractLsb 10 10 ++ featureBit (apicBit cfg apicEnabled) ++
    featureBit cfg.cmpxchg8b ++ featureBit cfg.mce ++ featureBit cfg.pae ++ featureBit cfg.msr ++ featureBit cfg.tsc ++
    featureBit cfg.pse ++ featureBit cfg.de ++ featureBit cfg.vme ++ featureBit cfg.fpu

/-- Fn0000_0001 (41_standard_functions.md R67). -/
def fn0000_0001 (cfg : Cfg) (apicEnabled : Bool) (d : Quad) : Quad where
  eax := signature cfg
  ebx := misc1 cfg d.ebx
  ecx := feat1C cfg d.ecx
  edx := feat1D cfg apicEnabled d.edx

/-- CPUID Fn0000_0000 (41_standard_functions.md R65, R66). -/
def execCpuidFn0000_0000 (s : State) : Host.Outcome State Fault Refusal :=
  s.runStandard 0x00000000#32 (fn0000_0000 s.cfg)

/-- CPUID Fn0000_0001 (41_standard_functions.md R67). -/
def execCpuidFn0000_0001 (s : State) : Host.Outcome State Fault Refusal :=
  s.runStandard 0x00000001#32 (fn0000_0001 s.cfg s.apicEnabled s.draws)

end Sys2Proof.Machine
end

