-- ==== Sys2Proof/Machine/ExtendedIdentity.lean ====
section
/-! DEFINITION. Extended functions Fn8000_0000 to Fn8000_0004 (42_extended_identity.md). -/

namespace Sys2Proof.Machine

/-- Fn8000_0000 (42_extended_identity.md R90, R91). -/
def fn8000_0000 (cfg : Cfg) : Quad := vendorWords cfg.maxExtFn

/-- `Brand(cfg)`, Fn8000_0001_EBX (42_extended_identity.md R95). -/
def brand (cfg : Cfg) (d : Word) : Word := d.extractLsb 31 16 ++ cfg.brandId

/-- `FeatXC(cfg)`, Fn8000_0001_ECX (42_extended_identity.md R97). -/
def featXC (cfg : Cfg) (d : Word) : Word :=
  d.extractLsb 31 5 ++ featureBit cfg.altMovCr8 ++ d.extractLsb 3 3 ++ featureBit cfg.svm ++ featureBit cfg.cmpLegacy ++
    featureBit cfg.lahfSahf

/-- `FeatXD(cfg, st)`, Fn8000_0001_EDX (42_extended_identity.md R99). -/
def featXD (cfg : Cfg) (apicEnabled : Bool) (d : Word) : Word :=
  featureBit cfg.threeDNow ++ featureBit cfg.threeDNowExt ++ featureBit cfg.lm ++ d.extractLsb 28 28 ++
    featureBit cfg.rdtscp ++ d.extractLsb 26 26 ++
    featureBit cfg.ffxsr ++ featureBit cfg.fxsr ++ featureBit cfg.mmx ++ featureBit cfg.mmxExt ++ d.extractLsb 21 21 ++
    featureBit cfg.nx ++ d.extractLsb 19 18 ++
    featureBit cfg.pse36 ++ featureBit cfg.pat ++ featureBit cfg.cmov ++ featureBit cfg.mca ++ featureBit cfg.pge ++
    featureBit cfg.mtrr ++ featureBit cfg.sysCallSysRet ++ d.extractLsb 10 10 ++ featureBit (apicBit cfg apicEnabled) ++
    featureBit cfg.cmpxchg8b ++ featureBit cfg.mce ++ featureBit cfg.pae ++ featureBit cfg.msr ++ featureBit cfg.tsc ++
    featureBit cfg.pse ++ featureBit cfg.de ++ featureBit cfg.vme ++ featureBit cfg.fpu

/-- Fn8000_0001 (42_extended_identity.md R93); EAX is the signature of Fn0000_0001_EAX (R94). -/
def fn8000_0001 (cfg : Cfg) (apicEnabled : Bool) (d : Quad) : Quad where
  eax := signature cfg
  ebx := brand cfg d.ebx
  ecx := featXC cfg d.ecx
  edx := featXD cfg apicEnabled d.edx

/-- `Word(S, k)`: characters `k` to `k + 3` of the name string, the first in bits 7:0 (42_extended_identity.md R108). -/
def nameWord (name : NameString) (k : Fin 45) : Word :=
  name[k.val + 3] ++ name[k.val + 2] ++ name[k.val + 1] ++ name[k.val]

/-- `NameWords(st, o)`: sixteen characters in the order EAX, EBX, ECX, EDX (42_extended_identity.md R108). -/
def nameWords (name : NameString) (o : Fin 33) : Quad where
  eax := nameWord name ⟨o.val, by omega⟩
  ebx := nameWord name ⟨o.val + 4, by omega⟩
  ecx := nameWord name ⟨o.val + 8, by omega⟩
  edx := nameWord name ⟨o.val + 12, by omega⟩

/-- CPUID Fn8000_0000 (42_extended_identity.md R90, R91). -/
def execCpuidFn8000_0000 (s : State) : Host.Outcome State Fault Refusal :=
  s.runExtended 0x80000000#32 (fn8000_0000 s.cfg)

/-- CPUID Fn8000_0001 (42_extended_identity.md R93). -/
def execCpuidFn8000_0001 (s : State) : Host.Outcome State Fault Refusal :=
  s.runExtended 0x80000001#32 (fn8000_0001 s.cfg s.apicEnabled s.draws)

/-- CPUID Fn8000_0002, characters 0 to 15 (42_extended_identity.md R108). -/
def execCpuidFn8000_0002 (s : State) : Host.Outcome State Fault Refusal :=
  s.runExtended 0x80000002#32 (nameWords s.nameString 0)

/-- CPUID Fn8000_0003, characters 16 to 31 (42_extended_identity.md R108). -/
def execCpuidFn8000_0003 (s : State) : Host.Outcome State Fault Refusal :=
  s.runExtended 0x80000003#32 (nameWords s.nameString 16)

/-- CPUID Fn8000_0004, characters 32 to 47 (42_extended_identity.md R108). -/
def execCpuidFn8000_0004 (s : State) : Host.Outcome State Fault Refusal :=
  s.runExtended 0x80000004#32 (nameWords s.nameString 32)

end Sys2Proof.Machine
end

