-- ==== Sys2Proof/Machine/ExtendedPowerAddrSvm.lean ====
section
/-! DEFINITION. Extended functions Fn8000_0007 to Fn8000_0019: power management, address sizes, SVM and the reserved functions
(44_extended_power_addr_svm.md). -/

namespace Sys2Proof.Machine

/-- `Apm(cfg)`, Fn8000_0007_EDX (44_extended_power_addr_svm.md R141). -/
def apm (cfg : Cfg) (d : Word) : Word :=
  d.extractLsb 31 9 ++ featureBit cfg.tscInvariant ++ d.extractLsb 7 6 ++ featureBit cfg.stc ++ featureBit cfg.tm ++
    featureBit cfg.ttp ++ featureBit cfg.vid ++ featureBit cfg.fid ++ featureBit cfg.ts

/-- Fn8000_0007 (44_extended_power_addr_svm.md R140): EAX, EBX and ECX are reserved. -/
def fn8000_0007 (cfg : Cfg) (d : Quad) : Quad := { d with edx := apm cfg d.edx }

/-- `AddrSize(cfg)`, Fn8000_0008_EAX (44_extended_power_addr_svm.md R146). -/
def addrSize (cfg : Cfg) (d : Word) : Word := d.extractLsb 31 16 ++ cfg.linAddrSize ++ cfg.physAddrSize

/-- `CoreCount(cfg)`, Fn8000_0008_ECX (44_extended_power_addr_svm.md R148). -/
def coreCount (cfg : Cfg) (d : Word) : Word :=
  d.extractLsb 31 16 ++ cfg.apicIdCoreIdSize ++ d.extractLsb 11 8 ++ cfg.nc

/-- Fn8000_0008 (44_extended_power_addr_svm.md R145): EBX and EDX are reserved (R147). -/
def fn8000_0008 (cfg : Cfg) (d : Quad) : Quad :=
  { d with eax := addrSize cfg d.eax, ecx := coreCount cfg d.ecx }

/-- Fn8000_000A (44_extended_power_addr_svm.md R151, R152); reserved as a whole when SVM = 0 (R153). -/
def fn8000_000A (cfg : Cfg) (d : Quad) : Quad :=
  if cfg.svm then { d with eax := d.eax.extractLsb 31 8 ++ cfg.svmRev, ebx := cfg.nasid } else unspecified d

/-- CPUID Fn8000_0007 (44_extended_power_addr_svm.md R140). -/
def execCpuidFn8000_0007 (s : State) : Host.Outcome State Fault Refusal :=
  s.runExtended 0x80000007#32 (fn8000_0007 s.cfg s.draws)

/-- CPUID Fn8000_0008 (44_extended_power_addr_svm.md R145). -/
def execCpuidFn8000_0008 (s : State) : Host.Outcome State Fault Refusal :=
  s.runExtended 0x80000008#32 (fn8000_0008 s.cfg s.draws)

/-- CPUID Fn8000_0009, reserved (44_extended_power_addr_svm.md R150). -/
def execCpuidFn8000_0009 (s : State) : Host.Outcome State Fault Refusal :=
  s.runExtended 0x80000009#32 (unspecified s.draws)

/-- CPUID Fn8000_000A (44_extended_power_addr_svm.md R151 to R153). -/
def execCpuidFn8000_000A (s : State) : Host.Outcome State Fault Refusal :=
  s.runExtended 0x8000000A#32 (fn8000_000A s.cfg s.draws)

/-- CPUID Fn8000_000B, reserved (44_extended_power_addr_svm.md R154). -/
def execCpuidFn8000_000B (s : State) : Host.Outcome State Fault Refusal :=
  s.runExtended 0x8000000B#32 (unspecified s.draws)

/-- CPUID Fn8000_000C, reserved (44_extended_power_addr_svm.md R154). -/
def execCpuidFn8000_000C (s : State) : Host.Outcome State Fault Refusal :=
  s.runExtended 0x8000000C#32 (unspecified s.draws)

/-- CPUID Fn8000_000D, reserved (44_extended_power_addr_svm.md R154). -/
def execCpuidFn8000_000D (s : State) : Host.Outcome State Fault Refusal :=
  s.runExtended 0x8000000D#32 (unspecified s.draws)

/-- CPUID Fn8000_000E, reserved (44_extended_power_addr_svm.md R154). -/
def execCpuidFn8000_000E (s : State) : Host.Outcome State Fault Refusal :=
  s.runExtended 0x8000000E#32 (unspecified s.draws)

/-- CPUID Fn8000_000F, reserved (44_extended_power_addr_svm.md R154). -/
def execCpuidFn8000_000F (s : State) : Host.Outcome State Fault Refusal :=
  s.runExtended 0x8000000F#32 (unspecified s.draws)

/-- CPUID Fn8000_0010, reserved (44_extended_power_addr_svm.md R154). -/
def execCpuidFn8000_0010 (s : State) : Host.Outcome State Fault Refusal :=
  s.runExtended 0x80000010#32 (unspecified s.draws)

/-- CPUID Fn8000_0011, reserved (44_extended_power_addr_svm.md R154). -/
def execCpuidFn8000_0011 (s : State) : Host.Outcome State Fault Refusal :=
  s.runExtended 0x80000011#32 (unspecified s.draws)

/-- CPUID Fn8000_0012, reserved (44_extended_power_addr_svm.md R154). -/
def execCpuidFn8000_0012 (s : State) : Host.Outcome State Fault Refusal :=
  s.runExtended 0x80000012#32 (unspecified s.draws)

/-- CPUID Fn8000_0013, reserved (44_extended_power_addr_svm.md R154). -/
def execCpuidFn8000_0013 (s : State) : Host.Outcome State Fault Refusal :=
  s.runExtended 0x80000013#32 (unspecified s.draws)

/-- CPUID Fn8000_0014, reserved (44_extended_power_addr_svm.md R154). -/
def execCpuidFn8000_0014 (s : State) : Host.Outcome State Fault Refusal :=
  s.runExtended 0x80000014#32 (unspecified s.draws)

/-- CPUID Fn8000_0015, reserved (44_extended_power_addr_svm.md R154). -/
def execCpuidFn8000_0015 (s : State) : Host.Outcome State Fault Refusal :=
  s.runExtended 0x80000015#32 (unspecified s.draws)

/-- CPUID Fn8000_0016, reserved (44_extended_power_addr_svm.md R154). -/
def execCpuidFn8000_0016 (s : State) : Host.Outcome State Fault Refusal :=
  s.runExtended 0x80000016#32 (unspecified s.draws)

/-- CPUID Fn8000_0017, reserved (44_extended_power_addr_svm.md R154). -/
def execCpuidFn8000_0017 (s : State) : Host.Outcome State Fault Refusal :=
  s.runExtended 0x80000017#32 (unspecified s.draws)

/-- CPUID Fn8000_0018, reserved (44_extended_power_addr_svm.md R154). -/
def execCpuidFn8000_0018 (s : State) : Host.Outcome State Fault Refusal :=
  s.runExtended 0x80000018#32 (unspecified s.draws)

/-- CPUID Fn8000_0019, reserved (44_extended_power_addr_svm.md R154). -/
def execCpuidFn8000_0019 (s : State) : Host.Outcome State Fault Refusal :=
  s.runExtended 0x80000019#32 (unspecified s.draws)

end Sys2Proof.Machine
end

