-- ==== Sys2Proof/Machine/Cpuid.lean ====
section
/-! DEFINITION. The instruction CPUID with its whole dispatch on the function number (40_cpuid_instruction.md). -/

namespace Sys2Proof.Machine

/-- `CpuidResult(cfg, st, fn)` (40_cpuid_instruction.md R52), the range test first. It depends on the function number,
the configuration, the two parts of `st` and the draws, and on nothing else (R59). -/
def cpuidResult (cfg : Cfg) (name : NameString) (apicEnabled : Bool) (d : Quad) (fn : Word) : Quad :=
  if isStandard cfg fn then
    if fn = 0x00000000#32 then fn0000_0000 cfg
    else if fn = 0x00000001#32 then fn0000_0001 cfg apicEnabled d
    else unspecified d
  else if isExtended cfg fn then
    if fn = 0x80000000#32 then fn8000_0000 cfg
    else if fn = 0x80000001#32 then fn8000_0001 cfg apicEnabled d
    else if fn = 0x80000002#32 then nameWords name 0
    else if fn = 0x80000003#32 then nameWords name 16
    else if fn = 0x80000004#32 then nameWords name 32
    else if fn = 0x80000005#32 then fn8000_0005 cfg
    else if fn = 0x80000006#32 then fn8000_0006 cfg d
    else if fn = 0x80000007#32 then fn8000_0007 cfg d
    else if fn = 0x80000008#32 then fn8000_0008 cfg d
    else if fn = 0x80000009#32 then unspecified d
    else if fn = 0x8000000A#32 then fn8000_000A cfg d
    else unspecified d
  else unspecified d

/-- The words that CPUID returns in this state for a function number. -/
def State.cpuidWords (s : State) (fn : Word) : Quad := cpuidResult s.cfg s.nameString s.apicEnabled s.draws fn

/-- CPUID (40_cpuid_instruction.md R50): one atomic step, for any value of EAX and without exception (60_exceptions.md R170),
at any privilege level and in any mode (R172). -/
def execCpuid (s : State) : Host.Outcome State Fault Refusal :=
  .next (s.completeCpuid (s.cpuidWords s.selector))

end Sys2Proof.Machine
end

