-- ==== Sys2Proof/Machine/Dispatch.lean ====
section
/-! DEFINITION. The dispatch: one arm per constructor of Instr, each a direct call of its meaning. -/

namespace Sys2Proof.Machine

def exec (i : Instr) (s : State) : Host.Outcome State Fault Refusal :=
  match i with
  | .cpuid => Sys2Proof.Machine.execCpuid s
  | .cpuidFn0000_0000 => Sys2Proof.Machine.execCpuidFn0000_0000 s
  | .cpuidFn0000_0001 => Sys2Proof.Machine.execCpuidFn0000_0001 s
  | .cpuidFn8000_0000 => Sys2Proof.Machine.execCpuidFn8000_0000 s
  | .cpuidFn8000_0001 => Sys2Proof.Machine.execCpuidFn8000_0001 s
  | .cpuidFn8000_0002 => Sys2Proof.Machine.execCpuidFn8000_0002 s
  | .cpuidFn8000_0003 => Sys2Proof.Machine.execCpuidFn8000_0003 s
  | .cpuidFn8000_0004 => Sys2Proof.Machine.execCpuidFn8000_0004 s
  | .cpuidFn8000_0005 => Sys2Proof.Machine.execCpuidFn8000_0005 s
  | .cpuidFn8000_0006 => Sys2Proof.Machine.execCpuidFn8000_0006 s
  | .cpuidFn8000_0007 => Sys2Proof.Machine.execCpuidFn8000_0007 s
  | .cpuidFn8000_0008 => Sys2Proof.Machine.execCpuidFn8000_0008 s
  | .cpuidFn8000_0009 => Sys2Proof.Machine.execCpuidFn8000_0009 s
  | .cpuidFn8000_000A => Sys2Proof.Machine.execCpuidFn8000_000A s
  | .cpuidFn8000_000B => Sys2Proof.Machine.execCpuidFn8000_000B s
  | .cpuidFn8000_000C => Sys2Proof.Machine.execCpuidFn8000_000C s
  | .cpuidFn8000_000D => Sys2Proof.Machine.execCpuidFn8000_000D s
  | .cpuidFn8000_000E => Sys2Proof.Machine.execCpuidFn8000_000E s
  | .cpuidFn8000_000F => Sys2Proof.Machine.execCpuidFn8000_000F s
  | .cpuidFn8000_0010 => Sys2Proof.Machine.execCpuidFn8000_0010 s
  | .cpuidFn8000_0011 => Sys2Proof.Machine.execCpuidFn8000_0011 s
  | .cpuidFn8000_0012 => Sys2Proof.Machine.execCpuidFn8000_0012 s
  | .cpuidFn8000_0013 => Sys2Proof.Machine.execCpuidFn8000_0013 s
  | .cpuidFn8000_0014 => Sys2Proof.Machine.execCpuidFn8000_0014 s
  | .cpuidFn8000_0015 => Sys2Proof.Machine.execCpuidFn8000_0015 s
  | .cpuidFn8000_0016 => Sys2Proof.Machine.execCpuidFn8000_0016 s
  | .cpuidFn8000_0017 => Sys2Proof.Machine.execCpuidFn8000_0017 s
  | .cpuidFn8000_0018 => Sys2Proof.Machine.execCpuidFn8000_0018 s
  | .cpuidFn8000_0019 => Sys2Proof.Machine.execCpuidFn8000_0019 s

end Sys2Proof.Machine
end

