-- ==== Sys2Proof/Machine/Fetch.lean ====
section
/-! DEFINITION. Fetching and decoding the instruction at the program counter. -/

namespace Sys2Proof.Machine

/-- Why no instruction runs. -/
inductive FetchStop where
  | fault (r : Fault)
  | refused (r : Refusal)
  deriving DecidableEq, Repr

/-- How undecodable bytes stop the machine. Bytes that end early are a fault at the first address that holds none, unless
the fetch saw its whole window (log 4, 8). -/
def State.fetchStop (s : State) (bytes : List Byte) : DecodeError → FetchStop
  | .incomplete =>
    if bytes.length < fetchWindow then .fault (.fetchAbsent (s.addressAfter s.pc (BitVec.ofNat 64 bytes.length)))
    else .refused .outsideSpec
  | .prefixedCpuid => .refused .prefixedCpuid
  | .notCpuid => .refused .outsideSpec

/-- The instruction at the program counter: the bytes there, read with the selector in EAX (30_encoding.md R40, R45). -/
def State.fetchInstr (s : State) : Except FetchStop Instr :=
  match decode s.fetchBytes s.selector with
  | .ok (i, _) => .ok i
  | .error e => .error (s.fetchStop s.fetchBytes e)

/-- A table row's word placed where the next step fetches: its bytes at the program counter, and for a function row its
function number in EAX (log 2, 9). -/
def State.placeRow (s : State) (nbits w : Nat) : State :=
  let t := s.loadBytes s.pc (rowBytes nbits w)
  if isFunctionRow nbits then t.writeReg .eax (BitVec.ofNat 32 w) else t

end Sys2Proof.Machine
end

