-- ==== Sys2Proof/Machine/Step.lean ====
section
/-! DEFINITION. One step of a core: take the environment's input, fetch, decode, execute. -/

namespace Sys2Proof.Machine

/-- One step (40_cpuid_instruction.md R50). The three outcomes are a next state, a fault of the fetch, and a refusal of bytes
that no source gives a meaning. -/
def step (s : State) : Host.Outcome State Fault Refusal :=
  let t := s.takeInput
  match t.fetchInstr with
  | .ok i => exec i t
  | .error (.fault r) => .fault r
  | .error (.refused r) => .refused r

/-- The state with a table row's word where `step` fetches its next instruction. A program is loaded from outside the
machine, and this stands for that load (log 9). -/
def State.withFetchWord (s : State) (nbits w : Nat) : State := s.placeRow nbits w

end Sys2Proof.Machine
end

