-- ==== Sys2Proof/Machine/HostActions.lean ====
section
/-! DEFINITION. What the outside world does to a core besides loading program text: the BIOS programs the name string
(70_reset_and_hazards.md R188), and a test program's host loads EAX between instructions (R194). -/

namespace Sys2Proof.Machine

/-- `SetNameString(core, s)` on this core: `none` where its precondition fails or a step has begun
(70_reset_and_hazards.md R188; log 14). -/
def State.setNameString (s : State) (name : NameString) : Option State :=
  if name.programmable && decide (s.stepCount = 0) then some { s with nameString := name } else none

/-- `host: EAX <- v` (70_reset_and_hazards.md R194). -/
def State.hostLoadEax (s : State) (v : Word) : State := s.writeReg .eax v

end Sys2Proof.Machine
end

