-- ==== Sys2Proof/Machine/Processor.lean ====
section
/-! DEFINITION. A processor: "A single package that contains one or more CPU cores" (60_exceptions.md R179). Each core has its
own state, and nothing mutable is shared (20_memory.md R39). -/

namespace Sys2Proof.Machine

/-- Core `k` takes one step, the others none. `none`: there is no such core, or it stops. Which core moves next is the
caller's choice (log 19). -/
def stepCore (cores : List State) (k : Nat) : Option (List State) :=
  match cores[k]? with
  | none => none
  | some s =>
    match step s with
    | .next t => some (cores.set k t)
    | .fault _ => none
    | .refused _ => none

/-- The cores of the processor after reset: as many as its configuration counts (45_core_thread_count.md R162). -/
def processorReset : List State := (List.range ((Config.coreCfg 0).nc.toNat + 1)).map State.resetCore

end Sys2Proof.Machine
end

