-- ==== Sys2Proof/Machine/Software.lean ====
section
/-! DEFINITION. What software reads from the returned words: the defined bits, and the arithmetic and codes that the spec
gives for fields (40_cpuid_instruction.md R61). No meaning uses these definitions. -/

namespace Sys2Proof.Machine

/-- All 32 bits of a word. -/
def allBits : Word := 0xFFFFFFFF#32

/-- The bits that a function defines on this core, register by register; the others are draws (93_implementation_defined.md
U5, U6; 30_encoding.md R46). RAZ bits are defined bits. -/
def definedMask (cfg : Cfg) (fn : Word) : Quad :=
  let full : Quad := ⟨allBits, allBits, allBits, allBits⟩
  let none : Quad := ⟨0, 0, 0, 0⟩
  if isStandard cfg fn then
    if fn = 0x00000000#32 then full
    else if fn = 0x00000001#32 then
      ⟨allBits, if cfg.htt then allBits else 0xFF00FFFF#32, 0x80002001#32, 0x178BFBFF#32⟩
    else none
  else if isExtended cfg fn then
    if fn = 0x80000000#32 then full
    else if fn = 0x80000001#32 then ⟨allBits, 0x0000FFFF#32, 0x00000017#32, 0xEBD3FBFF#32⟩
    else if fn = 0x80000002#32 then full
    else if fn = 0x80000003#32 then full
    else if fn = 0x80000004#32 then full
    else if fn = 0x80000005#32 then full
    else if fn = 0x80000006#32 then ⟨allBits, allBits, allBits, 0⟩
    else if fn = 0x80000007#32 then ⟨0, 0, 0, 0x0000013F#32⟩
    else if fn = 0x80000008#32 then ⟨0x0000FFFF#32, 0, 0x0000F0FF#32, 0⟩
    else if fn = 0x8000000A#32 then
      if cfg.svm then ⟨0x000000FF#32, allBits, 0, 0⟩ else none
    else none
  else none

/-- A word's bytes, least significant first: the order of its characters (20_memory.md R32, 40_cpuid_instruction.md R64). -/
def wordBytes (v : Word) : List Byte := [field v 7 0, field v 15 8, field v 23 16, field v 31 24]

/-- The vendor string from the words of Fn0000_0000 or Fn8000_0000, in the order EBX, EDX, ECX (41_standard_functions.md R66). -/
def vendorText (q : Quad) : List Byte := wordBytes q.ebx ++ wordBytes q.edx ++ wordBytes q.ecx

/-- Sixteen characters from the words of a name-string function, in the order EAX, EBX, ECX, EDX (42_extended_identity.md R108). -/
def nameText (q : Quad) : List Byte := wordBytes q.eax ++ wordBytes q.ebx ++ wordBytes q.ecx ++ wordBytes q.edx

/-- The name to display: software stops at the first null (42_extended_identity.md R109). -/
def displayName (text : List Byte) : List Byte := text.takeWhile (fun b => decide (b ≠ 0x00#8))

/-- The signature with its reserved fields masked, as software should before it uses it (41_standard_functions.md R68). -/
def maskedSignature (eax : Word) : Word := eax &&& 0x0FFF0FFF#32

/-- Family[7:0] (41_standard_functions.md R69). -/
def familyOf (eax : Word) : BitVec 8 :=
  if field eax 11 8 = 0xF#4 then (field eax 11 8).setWidth 8 + field eax 27 20 else (field eax 11 8).setWidth 8

/-- Model[7:0] (41_standard_functions.md R69). -/
def modelOf (eax : Word) : BitVec 8 :=
  if field eax 11 8 = 0xF#4 then field eax 19 16 ++ field eax 7 4 else (field eax 7 4).setWidth 8

/-- Stepping (41_standard_functions.md R69). -/
def steppingOf (eax : Word) : BitVec 4 := field eax 3 0

/-- The line that CLFLUSH flushes, in bytes, from Fn0000_0001_EBX (41_standard_functions.md R74). -/
def clflushBytes (ebx : Word) : Nat := (field ebx 15 8).toNat * 8

/-- What an associativity code says. -/
inductive Ways where
  | reserved
  | disabled
  /-- Set associative with this many ways; one way is "direct mapped". -/
  | ways (n : Nat)
  | fullyAssociative
  deriving DecidableEq, Repr

/-- `Ways8`, the code of Fn8000_0005 (43_extended_cache_tlb.md R121). -/
def ways8 (a : BitVec 8) : Ways :=
  if a = 0x00#8 then .reserved else if a = 0xFF#8 then .fullyAssociative else .ways a.toNat

/-- `Ways4`, the code of Fn8000_0006, Table 1 (43_extended_cache_tlb.md R127). It is not the number of ways. -/
def ways4 (a : BitVec 4) : Ways :=
  if a = 0x0#4 then .disabled
  else if a = 0x1#4 then .ways 1
  else if a = 0x2#4 then .ways 2
  else if a = 0x4#4 then .ways 4
  else if a = 0x6#4 then .ways 8
  else if a = 0x8#4 then .ways 16
  else if a = 0xF#4 then .fullyAssociative
  else .reserved

/-- Entries for 4 MB pages from a returned Size, the integer quotient (43_extended_cache_tlb.md R122; log 25). -/
def entries4M (size : Nat) : Nat := size / 2

/-- The L2 TLB is unified (43_extended_cache_tlb.md R128), from the words of Fn8000_0006. -/
def l2TlbUnified (q : Quad) : Bool := decide (field q.eax 31 16 = 0#16) && decide (field q.ebx 31 16 = 0#16)

/-- Cores per processor, the recommended way, from Fn8000_0008_ECX (45_core_thread_count.md R164). -/
def coresPerProcessor (ecx : Word) : Nat := (field ecx 7 0).toNat + 1

/-- MNC, the maximum number of cores, from Fn8000_0008_ECX (44_extended_power_addr_svm.md R149). -/
def maximumCores (ecx : Word) : Nat :=
  if field ecx 15 12 = 0#4 then coresPerProcessor ecx else 2 ^ (field ecx 15 12).toNat

/-- The core number within the processor (44_extended_power_addr_svm.md R149), from Fn0000_0001_EBX and Fn8000_0008_ECX.
With ApicIdCoreIdSize = 0 no source gives the split (93_implementation_defined.md U13). DESIGN CHOICE: with 9 to 15 the spec
does not say what the bits above LocalApicId's eight are; here they are zero, so the number is the whole LocalApicId (log 25). -/
def coreNumber (ebx ecx : Word) : Option Nat :=
  if field ecx 15 12 = 0#4 then none else some ((field ebx 31 24).toNat % 2 ^ (field ecx 15 12).toNat)

/-- Threads per processor from the words of Fn0000_0001 (45_core_thread_count.md R164). -/
def threadsPerProcessor (q : Quad) : Nat := if bit q.edx 28 then (field q.ebx 23 16).toNat else 1

/-- Threads per core from the words of Fn0000_0001 and Fn8000_0008_ECX (45_core_thread_count.md R164). -/
def threadsPerCore (q : Quad) (ecx : Word) : Nat := threadsPerProcessor q / coresPerProcessor ecx

/-- Cores per processor, the deprecated way, from the words of Fn0000_0001 and Fn8000_0001_ECX
(45_core_thread_count.md R164). `none`: not determined by these two fields. -/
def coresDeprecated (q : Quad) (ecx : Word) : Option Nat :=
  if !bit q.edx 28 then some 1 else if bit ecx 1 then some (field q.ebx 23 16).toNat else none

/-- Software may rely on a function's result: it compares the number with the limit that the range's first function
returned (40_cpuid_instruction.md R60). -/
def mayRelyOn (maxStd maxExt fn : Word) : Bool :=
  if fn < 0x80000000#32 then decide (fn ≤ maxStd) else decide (fn ≤ maxExt)

/-- A feature bit as software takes it: 0 where the function is not supported (40_cpuid_instruction.md R60). -/
def takenFeature (maxStd maxExt fn word : Word) (i : Nat) : Bool := mayRelyOn maxStd maxExt fn && bit word i

/-- The checks of 70_reset_and_hazards.md R189, steps (1) to (4), before software trusts the result of function `fn`: `std0`,
`std1`, `ext0` and `ext1` are the words of Fn0000_0000, Fn0000_0001, Fn8000_0000 and Fn8000_0001. -/
def trusted (std0 std1 ext0 ext1 : Quad) (fn : Word) : Bool :=
  decide (vendorText std0 = Config.vendor.toList) && decide (0x0F#8 ≤ familyOf (maskedSignature std1.eax)) &&
    mayRelyOn std0.eax ext0.eax fn &&
    (!decide (fn = 0x8000000A#32) || takenFeature std0.eax ext0.eax 0x80000001#32 ext1.ecx 2)

end Sys2Proof.Machine
end

