-- ==== Sys2Proof/Safety.lean ====
section
/-! DEFINITION. What claims speak of: the invariant of a core, and what an execution of CPUID leaves unchanged. -/

namespace Sys2Proof.Machine

/-- The invariant of a core: its configuration describes a processor in scope (10_state.md R22), its program counter lies
within the width PcWidth (R12; log 5), and its memory is in canonical form. -/
def State.Inv (s : State) : Prop :=
  s.cfg.wellFormed = true ∧ s.pcWidth.wrap s.pc = s.pc ∧ Memory.wf s.mem = true

/-- What holds of every execution of CPUID from `s` to `t` besides the four results: the program counter has moved past the
instruction and the draws are used up; the configuration, the name string, the APIC condition and every byte of
memory are as before (40_cpuid_instruction.md R50; 95_test_vectors.md section 2.15). -/
structure CpuidFrame (s t : State) : Prop where
  pc : t.pc = s.nextPc
  drawCount : t.drawCount = s.drawCount + 1
  pcWidth : t.pcWidth = s.pcWidth
  cfg : t.cfg = s.cfg
  nameString : t.nameString = s.nameString
  apicEnabled : t.apicEnabled = s.apicEnabled
  coreIndex : t.coreIndex = s.coreIndex
  stepCount : t.stepCount = s.stepCount
  memory : ∀ a, Memory.read t.mem a = Memory.read s.mem a

end Sys2Proof.Machine
end

