-- ==== Sys2Proof/Certificates/Slice0/Obligations.lean ====
section
/-! DEFINITION. The statements for the provers. OBLIGATIONS.json gives each its rules. -/

open Sys2Proof Sys2Proof.Machine

/-! ## Encoding -/

/-- Decoding inverts encoding: every row's bytes, whatever follows them, with a selector that belongs to the row. The two
bytes are the spec's decision D1 (log 1); the rows are constructors by log 2. -/
def Obligations.DecodeInvertsEncode : Prop :=
  ∀ (i : Instr) (eax : Word) (rest : List Byte), i.wellFormedFor eax = true →
    decode (encode i ++ rest) eax = .ok (i, rest)

/-- Nothing else decodes: bytes that give an instruction are its encoding, and the selector belongs to it. The bytes are
the spec's decisions D1 and D2 (log 1, 3). -/
def Obligations.OnlyEncodingsDecode : Prop :=
  ∀ (bytes : List Byte) (eax : Word) (i : Instr) (rest : List Byte), decode bytes eax = .ok (i, rest) →
    bytes = encode i ++ rest ∧ i.wellFormedFor eax = true

/-- The function-select map is unambiguous and total: every value of EAX belongs to exactly one row. That the rows are
constructors is log 2. -/
def Obligations.EverySelectorNamesOneRow : Prop :=
  ∀ eax : Word, ∃ i : Instr, i.wellFormedFor eax = true ∧ ∀ j : Instr, j.wellFormedFor eax = true → j = i

/-- Words of the opcode table decode to their rows. The bytes are the spec's decision D1 (log 1), the reading of the
table's words log 2. -/
def Obligations.TableWordsDecode : Prop :=
  decodeBytes [0b00001111#8, 0b10100010#8] = .ok (.cpuid, []) ∧ decodeTableWord 16 0x0FA2 = some .cpuid ∧
    decodeTableWord 16 0xA20F = none ∧ decodeTableWord 32 0x00000001 = some .cpuidFn0000_0001 ∧
    decodeTableWord 32 0x80000008 = some .cpuidFn8000_0008 ∧ decodeTableWord 32 0x80000019 = some .cpuidFn8000_0019 ∧
    decodeTableWord 32 0x8000001A = some .cpuid

/-- CPUID preceded by bytes of the classes of 30_encoding.md R42 is refused by name. The byte values are the model's (log 3). -/
def Obligations.PrefixedCpuidIsRefused : Prop :=
  ∀ (s : State) (ps rest : List Byte), ps ≠ [] → (∀ b ∈ ps, isPrefixByte b = true) →
    s.fetchBytes = ps ++ 0x0F#8 :: 0xA2#8 :: rest → step s = .refused .prefixedCpuid

/-- Bytes that begin neither CPUID nor a prefixed instruction are refused as outside the spec. The classes' byte values
are the model's (log 3). -/
def Obligations.OtherBytesAreRefused : Prop :=
  ∀ (s : State) (b0 b1 : Byte) (rest : List Byte), s.fetchBytes = b0 :: b1 :: rest → isPrefixByte b0 = false →
    ¬(b0 = 0x0F#8 ∧ b1 = 0xA2#8) → step s = .refused .outsideSpec

/-- A table row's word placed at the program counter is what the very next step runs, with the row's function number in
EAX. Every other byte of memory reads as before. The placing stands for a load from outside (log 2, 9). -/
def Obligations.PlacedRowRunsNext : Prop :=
  ∀ (s : State) (fn : Word), s.pcWidth.wrap s.pc = s.pc →
    let t := s.withFetchWord 32 fn.toNat
    step t = exec (selectFunction fn) t.takeInput ∧ t.eax = fn ∧ t.ebx = s.ebx ∧ t.ecx = s.ecx ∧ t.edx = s.edx ∧
      t.pc = s.pc ∧ t.cfg = s.cfg ∧ t.nameString = s.nameString ∧
      ∀ a : Nat, a ≠ s.pc.toNat → a ≠ (s.addressAfter s.pc 1).toNat → Memory.read t.mem a = Memory.read s.mem a

/-! ## The step -/

/-- A step runs the decoded instruction, on the state whose APIC condition is the environment's input. That it is sampled
at each step is log 13. -/
def Obligations.StepRunsDecodedInstruction : Prop :=
  ∀ (s : State) (i : Instr) (rest : List Byte), decode s.fetchBytes s.eax = .ok (i, rest) →
    step s = exec i s.takeInput ∧
      s.takeInput =
        { s with apicEnabled := Config.apicInput s.coreIndex s.stepCount, stepCount := s.stepCount + 1 }

/-- Where the bytes 0Fh, A2h stand at the program counter, the step is an execution of CPUID. The bytes are the spec's
decision D1 (log 1). -/
def Obligations.CpuidBytesExecute : Prop :=
  ∀ s : State, s.cfg.wellFormed = true → Memory.read s.mem s.pc.toNat = some 0x0F#8 →
    Memory.read s.mem (s.addressAfter s.pc 1).toNat = some 0xA2#8 → step s = exec .cpuid s.takeInput

/-- A fetch that finds no byte faults, at the address that holds none (the model's choice, log 8). -/
def Obligations.FetchFaultsWhereNothingIsListed : Prop :=
  ∀ s : State, s.pcWidth.wrap s.pc = s.pc →
    (Memory.read s.mem s.pc.toNat = none → step s = .fault (.fetchAbsent s.pc)) ∧
      (Memory.read s.mem s.pc.toNat = some 0x0F#8 → Memory.read s.mem (s.addressAfter s.pc 1).toNat = none →
        step s = .fault (.fetchAbsent (s.addressAfter s.pc 1)))

/-- Every step keeps the invariant. The width of the program counter and the form of the memory are the model's (log 5,
8). -/
def Obligations.StepKeepsInvariant : Prop :=
  ∀ s t : State, s.Inv → step s = .next t → t.Inv

/-- The machine after reset meets the invariant. Its configuration is free but well formed (log 10, 11). -/
def Obligations.ResetMeetsInvariant : Prop := State.reset.Inv

/-- What reset leaves: zero registers and program counter (the model's choice, log 6 and 7), memory that lists nothing
(log 8), and the free values of the parameters. -/
def Obligations.ResetValues : Prop :=
  State.reset.regs = ⟨0, 0, 0, 0⟩ ∧ State.reset.pc = 0 ∧ State.reset.mem = [] ∧ State.reset.cfg = Config.coreCfg 0 ∧
    State.reset.nameString = Config.nameStringReset 0 ∧ State.reset.apicEnabled = Config.apicEnabledReset 0

/-- A step changes only the four registers, the program counter, the APIC condition and the model's counters. The APIC
condition of a step is the environment's input (log 13). -/
def Obligations.StepFrame : Prop :=
  ∀ s t : State, step s = .next t →
    t.pc = s.nextPc ∧ t.pcWidth = s.pcWidth ∧ t.cfg = s.cfg ∧ t.nameString = s.nameString ∧ t.coreIndex = s.coreIndex ∧
      t.apicEnabled = Config.apicInput s.coreIndex s.stepCount ∧
      ∀ a : Nat, Memory.read t.mem a = Memory.read s.mem a

/-! ## CPUID as a whole -/

/-- Every instruction completes in every state, with the frame of CPUID: none raises an exception (the spec's decision D6, log 15). -/
def Obligations.EveryInstructionCompletes : Prop :=
  ∀ (i : Instr) (s : State), ∃ t, exec i s = .next t ∧ CpuidFrame s t

/-- CPUID returns `CpuidResult` of the function number in EAX. The dispatch is the spec's derivation
(40_cpuid_instruction.md R52). -/
def Obligations.CpuidReturnsItsResult : Prop :=
  ∀ s : State, ∃ t, exec .cpuid s = .next t ∧ CpuidFrame s t ∧
    t.regs = cpuidResult s.cfg s.nameString s.apicEnabled s.draws s.eax

/-- "CPUID FnX" is CPUID with X in EAX: a function row does what the whole dispatch does. -/
def Obligations.FunctionRowIsCpuidPreloaded : Prop :=
  ∀ (i : Instr) (fn : Word) (s : State), s.cfg.wellFormed = true → i.functionNumber = some fn →
    exec i s = exec .cpuid (s.writeReg .eax fn)

/-- On a well-formed configuration no number is both standard and extended, and the undefined numbers are those between
the ranges and those above them. The spec derives this (40_cpuid_instruction.md R54) from its decision D18. -/
def Obligations.RangesAreDisjoint : Prop :=
  ∀ (cfg : Cfg) (fn : Word), cfg.wellFormed = true →
    ¬(isStandard cfg fn = true ∧ isExtended cfg fn = true) ∧
      (isUndefined cfg fn = true ↔
        (cfg.maxStdFn < fn ∧ fn ≤ 0x7FFFFFFF#32) ∨ (cfg.maxExtFn < fn ∧ fn ≤ 0xFFFFFFFF#32))

/-- Any row whose function the core does not have returns four draws (the spec's decision D10, log 24). -/
def Obligations.UnavailableFunctionsDraw : Prop :=
  ∀ (i : Instr) (s : State), isUndefined s.cfg (i.functionNumber.getD s.eax) = true →
    ∃ t, exec i s = .next t ∧ t.regs = s.draws

/-- Functions inside a range that no source describes return four draws (the spec's decision D11, log 24). -/
def Obligations.UndescribedFunctionsDraw : Prop :=
  ∀ s : State, (0x00000002#32 ≤ s.eax ∧ s.eax ≤ s.cfg.maxStdFn) ∨ (0x8000001A#32 ≤ s.eax ∧ s.eax ≤ s.cfg.maxExtFn) →
    ∃ t, exec .cpuid s = .next t ∧ t.regs = s.draws

/-- The defined bits do not depend on the draws, and every other bit is the draw's. That reserved bits are draws is the
spec's decision D12 (log 12). -/
def Obligations.ReservedBitsAreDraws : Prop :=
  ∀ (cfg : Cfg) (name : NameString) (apic : Bool) (d d' : Quad) (fn : Word),
    (cpuidResult cfg name apic d fn).mask (definedMask cfg fn) =
        (cpuidResult cfg name apic d' fn).mask (definedMask cfg fn) ∧
      (cpuidResult cfg name apic d fn).mask (definedMask cfg fn).complement = d.mask (definedMask cfg fn).complement

/-- EAX is the only register input: two states that agree on EAX, the configuration, the name string and the APIC
condition get the same defined bits, whatever else differs. This is the spec's decision D14. -/
def Obligations.ResultDependsOnlyOnSelector : Prop :=
  ∀ s u : State, u.eax = s.eax → u.cfg = s.cfg → u.nameString = s.nameString → u.apicEnabled = s.apicEnabled →
    ∃ t v, exec .cpuid s = .next t ∧ exec .cpuid u = .next v ∧
      t.regs.mask (definedMask s.cfg s.eax) = v.regs.mask (definedMask s.cfg s.eax)

/-- Executed again with the same function number, CPUID returns the same defined bits. This is the spec's decision D14. -/
def Obligations.RepeatedExecutionAgrees : Prop :=
  ∀ s : State, ∃ t v, exec .cpuid s = .next t ∧ exec .cpuid (t.writeReg .eax s.eax) = .next v ∧
    t.regs.mask (definedMask s.cfg s.eax) = v.regs.mask (definedMask s.cfg s.eax)

/-- The selector is overwritten: from 0000_0000h the second CPUID runs function MaxStdFn, from 8000_0000h function
MaxExtFn. The spec derives this (40_cpuid_instruction.md R58). -/
def Obligations.SecondCpuidRunsTheLimit : Prop :=
  ∀ s : State, s.cfg.wellFormed = true → s.eax = 0x00000000#32 ∨ s.eax = 0x80000000#32 →
    ∃ t v, exec .cpuid s = .next t ∧ exec .cpuid t = .next v ∧
      v.regs = cpuidResult s.cfg s.nameString s.apicEnabled t.draws
        (if s.eax = 0x00000000#32 then s.cfg.maxStdFn else s.cfg.maxExtFn)

/-! ## Standard functions -/

/-- Fn0000_0000 returns MaxStdFn, itself the number of a standard function, which a second CPUID runs; and the vendor
string, with the same three words as Fn8000_0000. The reading order of the string is the spec's derivation
(41_standard_functions.md R66), and so is what a second CPUID runs (40_cpuid_instruction.md R58). -/
def Obligations.StandardVendor : Prop :=
  ∀ s : State, s.cfg.wellFormed = true → ∃ t u, exec .cpuidFn0000_0000 s = .next t ∧ exec .cpuidFn8000_0000 s = .next u ∧
    t.eax = s.cfg.maxStdFn ∧ isStandard s.cfg t.eax = true ∧
    exec .cpuid t = .next (t.completeCpuid (t.cpuidWords s.cfg.maxStdFn)) ∧
    t.ebx = 0x68747541#32 ∧ t.ecx = 0x444D4163#32 ∧ t.edx = 0x69746E65#32 ∧ vendorText t.regs = Config.vendor.toList ∧
    t.ebx = u.ebx ∧ t.ecx = u.ecx ∧ t.edx = u.edx

/-- Fn8000_0000 returns MaxExtFn, never below 8000_0000h, and the same three words as Fn0000_0000. The bound on EAX is the
spec's decision D18 (40_cpuid_instruction.md R53), the reading order of the string its derivation
(41_standard_functions.md R66). -/
def Obligations.ExtendedVendor : Prop :=
  ∀ s : State, s.cfg.wellFormed = true →
    ∃ t u, exec .cpuidFn8000_0000 s = .next t ∧ exec .cpuidFn0000_0000 s = .next u ∧ t.eax = s.cfg.maxExtFn ∧
      0x80000000#32 ≤ t.eax ∧ t.ebx = 0x68747541#32 ∧ t.ecx = 0x444D4163#32 ∧ t.edx = 0x69746E65#32 ∧
      t.ebx = u.ebx ∧ t.ecx = u.ecx ∧ t.edx = u.edx ∧ vendorText t.regs = Config.vendor.toList

/-- Fn0000_0001_EAX: the seven fields of the signature, the two reserved ones zero (log 17), so that the mask software
applies changes nothing; Fn8000_0001 returns the identical value. The zero fields and the mask clause rest on log 17. -/
def Obligations.SignatureFields : Prop :=
  ∀ s : State, s.cfg.wellFormed = true → ∃ t u, exec .cpuidFn0000_0001 s = .next t ∧ exec .cpuidFn8000_0001 s = .next u ∧
    field t.eax 31 28 = 0#4 ∧ field t.eax 27 20 = s.cfg.extFamily ∧ field t.eax 19 16 = s.cfg.extModel ∧
    field t.eax 15 12 = 0#4 ∧ field t.eax 11 8 = s.cfg.baseFamily ∧ field t.eax 7 4 = s.cfg.baseModel ∧
    field t.eax 3 0 = s.cfg.stepping ∧ maskedSignature t.eax = t.eax ∧
    (isExtended s.cfg 0x80000001#32 = true → u.eax = t.eax)

/-- Fn8000_0001_EAX is Fn0000_0001_EAX, bit for bit. -/
def Obligations.SignatureIsTheSame : Prop :=
  ∀ s : State, s.cfg.wellFormed = true → isExtended s.cfg 0x80000001#32 = true →
    ∃ t u, exec .cpuidFn8000_0001 s = .next t ∧ exec .cpuidFn0000_0001 s = .next u ∧ t.eax = u.eax

/-- Fn0000_0001_EBX: LocalApicId, LogicalProcessorCount (a draw when HTT = 0), CLFlush, 8BitBrandId. -/
def Obligations.MiscellaneousFields : Prop :=
  ∀ s : State, s.cfg.wellFormed = true → ∃ t, exec .cpuidFn0000_0001 s = .next t ∧
    field t.ebx 31 24 = s.cfg.localApicId ∧
    field t.ebx 23 16 = (if s.cfg.htt = true then s.cfg.logicalProcessorCount else field s.draws.ebx 23 16) ∧
    field t.ebx 15 8 = s.cfg.clFlush ∧ field t.ebx 7 0 = s.cfg.brandId8

/-- Fn0000_0001_ECX: RAZ, CMPXCHG16B and SSE3, the rest draws. The position of SSE3 is the spec's derivation, by
elimination (41_standard_functions.md R76). -/
def Obligations.StandardFeaturesEcx : Prop :=
  ∀ s : State, s.cfg.wellFormed = true → ∃ t, exec .cpuidFn0000_0001 s = .next t ∧
    bit t.ecx 31 = false ∧ field t.ecx 30 14 = field s.draws.ecx 30 14 ∧ bit t.ecx 13 = s.cfg.cmpxchg16b ∧
    field t.ecx 12 1 = field s.draws.ecx 12 1 ∧ bit t.ecx 0 = s.cfg.sse3

/-- Fn0000_0001_EDX, bit by bit. -/
def Obligations.StandardFeaturesEdx : Prop :=
  ∀ s : State, s.cfg.wellFormed = true → ∃ t, exec .cpuidFn0000_0001 s = .next t ∧
    field t.edx 31 29 = field s.draws.edx 31 29 ∧ bit t.edx 28 = s.cfg.htt ∧ bit t.edx 27 = bit s.draws.edx 27 ∧
    bit t.edx 26 = s.cfg.sse2 ∧ bit t.edx 25 = s.cfg.sse ∧ bit t.edx 24 = s.cfg.fxsr ∧ bit t.edx 23 = s.cfg.mmx ∧
    field t.edx 22 20 = field s.draws.edx 22 20 ∧ bit t.edx 19 = s.cfg.clfsh ∧ bit t.edx 18 = bit s.draws.edx 18 ∧
    bit t.edx 17 = s.cfg.pse36 ∧ bit t.edx 16 = s.cfg.pat ∧ bit t.edx 15 = s.cfg.cmov ∧ bit t.edx 14 = s.cfg.mca ∧
    bit t.edx 13 = s.cfg.pge ∧ bit t.edx 12 = s.cfg.mtrr ∧ bit t.edx 11 = s.cfg.sysEnterSysExit ∧
    bit t.edx 10 = bit s.draws.edx 10 ∧ bit t.edx 9 = (s.cfg.apicExists && s.apicEnabled) ∧
    bit t.edx 8 = s.cfg.cmpxchg8b ∧ bit t.edx 7 = s.cfg.mce ∧ bit t.edx 6 = s.cfg.pae ∧ bit t.edx 5 = s.cfg.msr ∧
    bit t.edx 4 = s.cfg.tsc ∧ bit t.edx 3 = s.cfg.pse ∧ bit t.edx 2 = s.cfg.de ∧ bit t.edx 1 = s.cfg.vme ∧
    bit t.edx 0 = s.cfg.fpu

/-! ## Extended functions -/

/-- Fn8000_0001_EBX: BrandId, the rest draws. The position of BrandId is the spec's derivation. -/
def Obligations.BrandIdentifier : Prop :=
  ∀ s : State, isExtended s.cfg 0x80000001#32 = true → ∃ t, exec .cpuidFn8000_0001 s = .next t ∧
    field t.ebx 31 16 = field s.draws.ebx 31 16 ∧ field t.ebx 15 0 = s.cfg.brandId

/-- Fn8000_0001_ECX: the four feature bits, the rest draws. -/
def Obligations.ExtendedFeaturesEcx : Prop :=
  ∀ s : State, isExtended s.cfg 0x80000001#32 = true → ∃ t, exec .cpuidFn8000_0001 s = .next t ∧
    field t.ecx 31 5 = field s.draws.ecx 31 5 ∧ bit t.ecx 4 = s.cfg.altMovCr8 ∧ bit t.ecx 3 = bit s.draws.ecx 3 ∧
    bit t.ecx 2 = s.cfg.svm ∧ bit t.ecx 1 = s.cfg.cmpLegacy ∧ bit t.ecx 0 = s.cfg.lahfSahf

/-- Fn8000_0001_EDX, bit by bit. -/
def Obligations.ExtendedFeaturesEdx : Prop :=
  ∀ s : State, isExtended s.cfg 0x80000001#32 = true → ∃ t, exec .cpuidFn8000_0001 s = .next t ∧
    bit t.edx 31 = s.cfg.threeDNow ∧ bit t.edx 30 = s.cfg.threeDNowExt ∧ bit t.edx 29 = s.cfg.lm ∧
    bit t.edx 28 = bit s.draws.edx 28 ∧ bit t.edx 27 = s.cfg.rdtscp ∧ bit t.edx 26 = bit s.draws.edx 26 ∧
    bit t.edx 25 = s.cfg.ffxsr ∧ bit t.edx 24 = s.cfg.fxsr ∧ bit t.edx 23 = s.cfg.mmx ∧ bit t.edx 22 = s.cfg.mmxExt ∧
    bit t.edx 21 = bit s.draws.edx 21 ∧ bit t.edx 20 = s.cfg.nx ∧ field t.edx 19 18 = field s.draws.edx 19 18 ∧
    bit t.edx 17 = s.cfg.pse36 ∧ bit t.edx 16 = s.cfg.pat ∧ bit t.edx 15 = s.cfg.cmov ∧ bit t.edx 14 = s.cfg.mca ∧
    bit t.edx 13 = s.cfg.pge ∧ bit t.edx 12 = s.cfg.mtrr ∧ bit t.edx 11 = s.cfg.sysCallSysRet ∧
    bit t.edx 10 = bit s.draws.edx 10 ∧ bit t.edx 9 = (s.cfg.apicExists && s.apicEnabled) ∧
    bit t.edx 8 = s.cfg.cmpxchg8b ∧ bit t.edx 7 = s.cfg.mce ∧ bit t.edx 6 = s.cfg.pae ∧ bit t.edx 5 = s.cfg.msr ∧
    bit t.edx 4 = s.cfg.tsc ∧ bit t.edx 3 = s.cfg.pse ∧ bit t.edx 2 = s.cfg.de ∧ bit t.edx 1 = s.cfg.vme ∧
    bit t.edx 0 = s.cfg.fpu

/-- The copied feature bits of the two functions agree in the same state; bits 28, 26, 25, 19 and 11 are not copies. -/
def Obligations.CopiedFeatureBits : Prop :=
  ∀ s : State, s.cfg.wellFormed = true → isExtended s.cfg 0x80000001#32 = true →
    ∃ t u, exec .cpuidFn8000_0001 s = .next t ∧ exec .cpuidFn0000_0001 s = .next u ∧
      t.edx &&& 0x0183F3FF#32 = u.edx &&& 0x0183F3FF#32 ∧
      bit t.edx 25 = s.cfg.ffxsr ∧ bit u.edx 25 = s.cfg.sse ∧
      bit t.edx 11 = s.cfg.sysCallSysRet ∧ bit u.edx 11 = s.cfg.sysEnterSysExit ∧
      bit t.edx 28 = bit s.draws.edx 28 ∧ bit u.edx 28 = s.cfg.htt ∧
      bit t.edx 26 = bit s.draws.edx 26 ∧ bit u.edx 26 = s.cfg.sse2 ∧
      bit t.edx 19 = bit s.draws.edx 19 ∧ bit u.edx 19 = s.cfg.clfsh

/-- The three name-string functions return the 48 characters in order, sixteen each. -/
def Obligations.NameStringCharacters : Prop :=
  ∀ s : State,
    (isExtended s.cfg 0x80000002#32 = true → ∃ t, exec .cpuidFn8000_0002 s = .next t ∧
      nameText t.regs = s.nameString.toList.take 16) ∧
    (isExtended s.cfg 0x80000003#32 = true → ∃ t, exec .cpuidFn8000_0003 s = .next t ∧
      nameText t.regs = (s.nameString.toList.drop 16).take 16) ∧
    (isExtended s.cfg 0x80000004#32 = true → ∃ t, exec .cpuidFn8000_0004 s = .next t ∧
      nameText t.regs = s.nameString.toList.drop 32)

/-- Fn8000_0005: the sixteen L1 cache and TLB fields. -/
def Obligations.L1CacheAndTlbFields : Prop :=
  ∀ s : State, isExtended s.cfg 0x80000005#32 = true → ∃ t, exec .cpuidFn8000_0005 s = .next t ∧
    field t.eax 31 24 = s.cfg.l1DTlb2and4MAssoc ∧ field t.eax 23 16 = s.cfg.l1DTlb2and4MSize ∧
    field t.eax 15 8 = s.cfg.l1ITlb2and4MAssoc ∧ field t.eax 7 0 = s.cfg.l1ITlb2and4MSize ∧
    field t.ebx 31 24 = s.cfg.l1DTlb4KAssoc ∧ field t.ebx 23 16 = s.cfg.l1DTlb4KSize ∧
    field t.ebx 15 8 = s.cfg.l1ITlb4KAssoc ∧ field t.ebx 7 0 = s.cfg.l1ITlb4KSize ∧
    field t.ecx 31 24 = s.cfg.l1DcSize ∧ field t.ecx 23 16 = s.cfg.l1DcAssoc ∧
    field t.ecx 15 8 = s.cfg.l1DcLinesPerTag ∧ field t.ecx 7 0 = s.cfg.l1DcLineSize ∧
    field t.edx 31 24 = s.cfg.l1IcSize ∧ field t.edx 23 16 = s.cfg.l1IcAssoc ∧
    field t.edx 15 8 = s.cfg.l1IcLinesPerTag ∧ field t.edx 7 0 = s.cfg.l1IcLineSize

/-- Fn8000_0006: the twelve L2 cache and TLB fields, and EDX a draw. -/
def Obligations.L2CacheAndTlbFields : Prop :=
  ∀ s : State, isExtended s.cfg 0x80000006#32 = true → ∃ t, exec .cpuidFn8000_0006 s = .next t ∧
    field t.eax 31 28 = s.cfg.l2DTlb2and4MAssoc ∧ field t.eax 27 16 = s.cfg.l2DTlb2and4MSize ∧
    field t.eax 15 12 = s.cfg.l2ITlb2and4MAssoc ∧ field t.eax 11 0 = s.cfg.l2ITlb2and4MSize ∧
    field t.ebx 31 28 = s.cfg.l2DTlb4KAssoc ∧ field t.ebx 27 16 = s.cfg.l2DTlb4KSize ∧
    field t.ebx 15 12 = s.cfg.l2ITlb4KAssoc ∧ field t.ebx 11 0 = s.cfg.l2ITlb4KSize ∧
    field t.ecx 31 16 = s.cfg.l2Size ∧ field t.ecx 15 12 = s.cfg.l2Assoc ∧
    field t.ecx 11 8 = s.cfg.l2LinesPerTag ∧ field t.ecx 7 0 = s.cfg.l2LineSize ∧ t.edx = s.draws.edx

/-- On the words of Fn8000_0006, the unified-TLB test is that the data fields are all zero. The test is
43_extended_cache_tlb.md R128. -/
def Obligations.UnifiedTlbReading : Prop :=
  ∀ s : State, isExtended s.cfg 0x80000006#32 = true → ∃ t, exec .cpuidFn8000_0006 s = .next t ∧
    (l2TlbUnified t.regs = true ↔
      s.cfg.l2DTlb2and4MAssoc = 0#4 ∧ s.cfg.l2DTlb2and4MSize = 0#12 ∧ s.cfg.l2DTlb4KAssoc = 0#4 ∧
        s.cfg.l2DTlb4KSize = 0#12)

/-- No associativity field of a well-formed configuration reads as reserved. That such configurations are excluded is
10_state.md R22, which the spec derives. -/
def Obligations.AssociativityCodesAreDefined : Prop :=
  ∀ s : State, s.cfg.wellFormed = true →
    (isExtended s.cfg 0x80000005#32 = true → ∃ t, exec .cpuidFn8000_0005 s = .next t ∧
      ways8 (field t.eax 31 24) ≠ .reserved ∧ ways8 (field t.eax 15 8) ≠ .reserved ∧
      ways8 (field t.ebx 31 24) ≠ .reserved ∧ ways8 (field t.ebx 15 8) ≠ .reserved ∧
      ways8 (field t.ecx 23 16) ≠ .reserved ∧ ways8 (field t.edx 23 16) ≠ .reserved) ∧
    (isExtended s.cfg 0x80000006#32 = true → ∃ t, exec .cpuidFn8000_0006 s = .next t ∧
      ways4 (field t.eax 31 28) ≠ .reserved ∧ ways4 (field t.eax 15 12) ≠ .reserved ∧
      ways4 (field t.ebx 31 28) ≠ .reserved ∧ ways4 (field t.ebx 15 12) ≠ .reserved ∧
      ways4 (field t.ecx 15 12) ≠ .reserved)

/-- Fn8000_0007: the seven power-management bits, the rest draws. -/
def Obligations.PowerManagementBits : Prop :=
  ∀ s : State, isExtended s.cfg 0x80000007#32 = true → ∃ t, exec .cpuidFn8000_0007 s = .next t ∧
    t.eax = s.draws.eax ∧ t.ebx = s.draws.ebx ∧ t.ecx = s.draws.ecx ∧
    field t.edx 31 9 = field s.draws.edx 31 9 ∧ bit t.edx 8 = s.cfg.tscInvariant ∧
    field t.edx 7 6 = field s.draws.edx 7 6 ∧ bit t.edx 5 = s.cfg.stc ∧ bit t.edx 4 = s.cfg.tm ∧
    bit t.edx 3 = s.cfg.ttp ∧ bit t.edx 2 = s.cfg.vid ∧ bit t.edx 1 = s.cfg.fid ∧ bit t.edx 0 = s.cfg.ts

/-- Fn8000_0008: address sizes and core counts, the rest draws. -/
def Obligations.AddressSizesAndCoreCount : Prop :=
  ∀ s : State, isExtended s.cfg 0x80000008#32 = true → ∃ t, exec .cpuidFn8000_0008 s = .next t ∧
    field t.eax 31 16 = field s.draws.eax 31 16 ∧ field t.eax 15 8 = s.cfg.linAddrSize ∧
    field t.eax 7 0 = s.cfg.physAddrSize ∧ t.ebx = s.draws.ebx ∧
    field t.ecx 31 16 = field s.draws.ecx 31 16 ∧ field t.ecx 15 12 = s.cfg.apicIdCoreIdSize ∧
    field t.ecx 11 8 = field s.draws.ecx 11 8 ∧ field t.ecx 7 0 = s.cfg.nc ∧ t.edx = s.draws.edx

/-- MNC from Fn8000_0008_ECX: NC + 1 where ApicIdCoreIdSize is zero, else a power of two. That the caret means a power is
the spec's derivation (44_extended_power_addr_svm.md R149). -/
def Obligations.MaximumNumberOfCores : Prop :=
  ∀ s : State, isExtended s.cfg 0x80000008#32 = true → ∃ t, exec .cpuidFn8000_0008 s = .next t ∧
    (s.cfg.apicIdCoreIdSize = 0#4 → maximumCores t.ecx = s.cfg.nc.toNat + 1) ∧
    (s.cfg.apicIdCoreIdSize ≠ 0#4 → maximumCores t.ecx = 2 ^ s.cfg.apicIdCoreIdSize.toNat ∧
      2 ≤ maximumCores t.ecx ∧ maximumCores t.ecx ≤ 32768)

/-- Fn8000_000A: SvmRev and NASID when SVM = 1; reserved as a whole when SVM = 0. -/
def Obligations.SvmFunction : Prop :=
  ∀ s : State, isExtended s.cfg 0x8000000A#32 = true → ∃ t, exec .cpuidFn8000_000A s = .next t ∧
    (s.cfg.svm = true → field t.eax 31 8 = field s.draws.eax 31 8 ∧ field t.eax 7 0 = s.cfg.svmRev ∧
      t.ebx = s.cfg.nasid ∧ t.ecx = s.draws.ecx ∧ t.edx = s.draws.edx) ∧
    (s.cfg.svm = false → t.regs = s.draws)

/-- The reserved functions return four draws, in range or not (the spec's decision D11, log 24). -/
def Obligations.ReservedFunctionsDraw : Prop :=
  ∀ s : State, ∀ i ∈ [Instr.cpuidFn8000_0009, .cpuidFn8000_000B, .cpuidFn8000_000C, .cpuidFn8000_000D, .cpuidFn8000_000E,
      .cpuidFn8000_000F, .cpuidFn8000_0010, .cpuidFn8000_0011, .cpuidFn8000_0012, .cpuidFn8000_0013, .cpuidFn8000_0014,
      .cpuidFn8000_0015, .cpuidFn8000_0016, .cpuidFn8000_0017, .cpuidFn8000_0018, .cpuidFn8000_0019],
    ∃ t, exec i s = .next t ∧ t.regs = s.draws

/-! ## What software reads -/

/-- Every processor in scope identifies as family 0Fh or greater. The bound on ExtFamily is the spec's decision D24. That
the mask changes nothing rests on the zero fields of log 17. -/
def Obligations.FamilyIsInScope : Prop :=
  ∀ s : State, s.cfg.wellFormed = true → ∃ t, exec .cpuidFn0000_0001 s = .next t ∧
    maskedSignature t.eax = t.eax ∧ (familyOf t.eax).toNat = 15 + s.cfg.extFamily.toNat ∧ 0x0F#8 ≤ familyOf t.eax ∧
    modelOf t.eax = s.cfg.extModel ++ s.cfg.baseModel ∧ steppingOf t.eax = s.cfg.stepping

/-- The core fields of a well-formed configuration are those of Table 3 for some number of cores, 1 to 255, with one
thread each. The check itself is log 23. -/
def Obligations.CoreFieldsAreTable3 : Prop :=
  ∀ cfg : Cfg, cfg.coresValid = true ↔ ∃ c : Nat, 1 ≤ c ∧ c ≤ 255 ∧ cfg.holdsRow (table3 c 1) = true

/-- Software counts the configured cores and threads, by the recommended and by the deprecated method. The spec derives
the thread counts (45_core_thread_count.md R164). -/
def Obligations.SoftwareCountsCores : Prop :=
  ∀ (s : State) (c : Nat), s.cfg.wellFormed = true → s.cfg.holdsRow (table3 c 1) = true → 1 ≤ c →
    isExtended s.cfg 0x80000008#32 = true →
    ∃ t u v, exec .cpuidFn0000_0001 s = .next t ∧ exec .cpuidFn8000_0001 s = .next u ∧ exec .cpuidFn8000_0008 s = .next v ∧
      coresPerProcessor v.ecx = c ∧ threadsPerProcessor t.regs = c ∧ threadsPerCore t.regs v.ecx = 1 ∧
      coresDeprecated t.regs u.ecx = some c

/-- The comparison software makes with the returned limits tells exactly which functions are supported. The spec derives
the procedure (40_cpuid_instruction.md R60). -/
def Obligations.SupportCheckIsExact : Prop :=
  ∀ (s : State) (fn : Word), s.cfg.wellFormed = true →
    ∃ t u, exec .cpuidFn0000_0000 s = .next t ∧ exec .cpuidFn8000_0000 s = .next u ∧
      mayRelyOn t.eax u.eax fn = !isUndefined s.cfg fn

/-- The checks of 70_reset_and_hazards.md R189 pass on a processor in scope exactly for the supported functions,
Fn8000_000A only with SVM. The order of the checks is the spec's derivation. -/
def Obligations.TrustProcedure : Prop :=
  ∀ (s : State) (fn : Word), s.cfg.wellFormed = true →
    ∃ t0 t1 u0 u1, exec .cpuidFn0000_0000 s = .next t0 ∧ exec .cpuidFn0000_0001 s = .next t1 ∧
      exec .cpuidFn8000_0000 s = .next u0 ∧ exec .cpuidFn8000_0001 s = .next u1 ∧
      (trusted t0.regs t1.regs u0.regs u1.regs fn = true ↔
        isUndefined s.cfg fn = false ∧ (fn = 0x8000000A#32 → s.cfg.svm = true))

/-! ## The BIOS and the other cores -/

/-- The name that the BIOS programmed is the name that the three functions return, and software displays it up to its
first null. The host action is the spec's decision D16 (log 14). -/
def Obligations.ProgrammedNameReadsBack : Prop :=
  ∀ (s u : State) (name : NameString), s.setNameString name = some u → isExtended s.cfg 0x80000004#32 = true →
    ∃ t2 t3 t4, exec .cpuidFn8000_0002 u = .next t2 ∧ exec .cpuidFn8000_0003 u = .next t3 ∧
      exec .cpuidFn8000_0004 u = .next t4 ∧
      nameText t2.regs ++ nameText t3.regs ++ nameText t4.regs = name.toList ∧
      (displayName (nameText t2.regs ++ nameText t3.regs ++ nameText t4.regs)).length ≤ 47

/-- SetNameString takes exactly the strings that are ASCII with a null, only before the first step, and changes nothing
else. The host action is the spec's decision D16, the first step log 14. -/
def Obligations.SetNameStringPrecondition : Prop :=
  ∀ (s : State) (name : NameString),
    s.setNameString name =
      if (∀ b ∈ name.toList, b.toNat < 128) ∧ 0x00#8 ∈ name.toList ∧ s.stepCount = 0 then
        some { s with nameString := name }
      else none

/-- Two cores do not interact: their steps commute. The interleaving is log 19. -/
def Obligations.CoreStepsCommute : Prop :=
  ∀ (cores : List State) (j k : Nat), j ≠ k →
    (stepCore cores j).bind (fun cs => stepCore cs k) = (stepCore cores k).bind (fun cs => stepCore cs j)

/-- A core's step leaves every other core as it was. The interleaving is log 19. -/
def Obligations.OtherCoresUnchanged : Prop :=
  ∀ (cores after : List State) (k : Nat), stepCore cores k = some after →
    after.length = cores.length ∧ ∀ j : Nat, j ≠ k → after[j]? = cores[j]?

/-- Every core of a processor returns the same core and thread fields. The spec derives this (45_core_thread_count.md
R165). -/
def Obligations.SameCountsOnEveryCore : Prop :=
  ∀ (cores : List State) (s u : State), processorWellFormed (cores.map (fun c => c.cfg)) = true → s ∈ cores → u ∈ cores →
    isExtended s.cfg 0x80000008#32 = true → isExtended u.cfg 0x80000008#32 = true →
    ∃ s1 u1 s2 u2 s3 u3, exec .cpuidFn0000_0001 s = .next s1 ∧ exec .cpuidFn0000_0001 u = .next u1 ∧
      exec .cpuidFn8000_0001 s = .next s2 ∧ exec .cpuidFn8000_0001 u = .next u2 ∧
      exec .cpuidFn8000_0008 s = .next s3 ∧ exec .cpuidFn8000_0008 u = .next u3 ∧
      bit s1.edx 28 = bit u1.edx 28 ∧ (bit s1.edx 28 = true → field s1.ebx 23 16 = field u1.ebx 23 16) ∧
      bit s2.ecx 1 = bit u2.ecx 1 ∧ field s3.ecx 7 0 = field u3.ecx 7 0 ∧ field s3.ecx 15 12 = field u3.ecx 15 12

/-- The configurations of the cores at reset are those of one processor: each well formed (log 10, 11), equal in the five
fields, and told apart by LocalApicId (log 19). -/
def Obligations.ResetProcessorIsWellFormed : Prop :=
  processorWellFormed (processorReset.map (fun c => c.cfg)) = true

/-- The cores a well-formed configuration counts are no more than the maximum that software computes. The spec derives this
consistency (44_extended_power_addr_svm.md R149; log 23). -/
def Obligations.CoresFitTheMaximum : Prop :=
  ∀ s : State, s.cfg.wellFormed = true → isExtended s.cfg 0x80000008#32 = true →
    ∃ t, exec .cpuidFn8000_0008 s = .next t ∧ coresPerProcessor t.ecx ≤ maximumCores t.ecx

/-- Two cores of one processor return different LocalApicIds. That LocalApicId differs is the spec's decision D15
(10_state.md R23, 45_core_thread_count.md R165; log 19). -/
def Obligations.LocalApicIdsTellCoresApart : Prop :=
  ∀ (cores : List State) (j k : Nat) (s u : State), processorWellFormed (cores.map (fun c => c.cfg)) = true → j ≠ k →
    cores[j]? = some s → cores[k]? = some u →
    ∃ t v, exec .cpuidFn0000_0001 s = .next t ∧ exec .cpuidFn0000_0001 u = .next v ∧
      field t.ebx 31 24 ≠ field v.ebx 31 24
end

