-- ==== Sys2Proof/Laws/Config.lean ====
section
/-! SUPPORT. What holds of a well-formed configuration, and of the configurations the machine has at reset. -/

namespace Sys2Proof

/-- The five parts of well-formedness. -/
theorem Cfg.wellFormed_iff (c : Cfg) :
    c.wellFormed = true ↔ c.rangesValid = true ∧ c.familyValid = true ∧ c.coresValid = true ∧ c.assocValid = true ∧
      c.coresFitMaximum = true := by
  simp [Cfg.wellFormed, and_assoc]

theorem Config.illustration_wellFormed : Config.illustration.wellFormed = true := by decide

theorem Config.inScope_wellFormed (c : Cfg) : (Config.inScope c).wellFormed = true := by
  unfold Config.inScope
  split
  · assumption
  · exact Config.illustration_wellFormed

/-- The fields that the cores share keep each core's configuration well formed. -/
theorem Config.coreCfg_wellFormed (k : Nat) : (Config.coreCfg k).wellFormed = true := by
  have own := (Cfg.wellFormed_iff _).1 (Config.inScope_wellFormed (Config.anyCfg k))
  have lead := (Cfg.wellFormed_iff _).1 (Config.inScope_wellFormed (Config.anyCfg 0))
  exact (Cfg.wellFormed_iff _).2 ⟨own.1, own.2.1, lead.2.2.1, own.2.2.2.1, lead.2.2.2.2⟩

theorem Config.apicIds_length (n : Nat) : (Config.apicIds n).length = n := by
  simp only [Config.apicIds]
  split_ifs <;> simp

/-- As many cores as LocalApicId can number have different LocalApicIds. -/
theorem Config.apicIds_nodup (n : Nat) (h : n ≤ 256) : (Config.apicIds n).Nodup := by
  simp only [Config.apicIds]
  split_ifs with free
  · exact free
  · refine List.Nodup.map_on (fun x hx y hy e => ?_) List.nodup_range
    have e' := congrArg BitVec.toNat e
    simp only [List.mem_range, BitVec.toNat_ofNat] at hx hy e'
    omega

end Sys2Proof
end

