-- ==== Sys2Proof/Laws/State.lean ====
section
/-! SUPPORT. One lemma per field for each update of the state. -/

namespace Sys2Proof.Machine

section writeResults

@[simp] theorem State.writeResults_eax (s : State) (r : Quad) : (s.writeResults r).eax = r.eax := rfl
@[simp] theorem State.writeResults_ebx (s : State) (r : Quad) : (s.writeResults r).ebx = r.ebx := rfl
@[simp] theorem State.writeResults_ecx (s : State) (r : Quad) : (s.writeResults r).ecx = r.ecx := rfl
@[simp] theorem State.writeResults_edx (s : State) (r : Quad) : (s.writeResults r).edx = r.edx := rfl
@[simp] theorem State.writeResults_pc (s : State) (r : Quad) : (s.writeResults r).pc = s.pc := rfl
@[simp] theorem State.writeResults_pcWidth (s : State) (r : Quad) : (s.writeResults r).pcWidth = s.pcWidth := rfl
@[simp] theorem State.writeResults_mem (s : State) (r : Quad) : (s.writeResults r).mem = s.mem := rfl
@[simp] theorem State.writeResults_cfg (s : State) (r : Quad) : (s.writeResults r).cfg = s.cfg := rfl
@[simp] theorem State.writeResults_nameString (s : State) (r : Quad) : (s.writeResults r).nameString = s.nameString := rfl
@[simp] theorem State.writeResults_apicEnabled (s : State) (r : Quad) : (s.writeResults r).apicEnabled = s.apicEnabled := rfl
@[simp] theorem State.writeResults_coreIndex (s : State) (r : Quad) : (s.writeResults r).coreIndex = s.coreIndex := rfl
@[simp] theorem State.writeResults_drawCount (s : State) (r : Quad) : (s.writeResults r).drawCount = s.drawCount := rfl
@[simp] theorem State.writeResults_stepCount (s : State) (r : Quad) : (s.writeResults r).stepCount = s.stepCount := rfl

end writeResults

section completeCpuid

@[simp] theorem State.completeCpuid_eax (s : State) (r : Quad) : (s.completeCpuid r).eax = r.eax := rfl
@[simp] theorem State.completeCpuid_ebx (s : State) (r : Quad) : (s.completeCpuid r).ebx = r.ebx := rfl
@[simp] theorem State.completeCpuid_ecx (s : State) (r : Quad) : (s.completeCpuid r).ecx = r.ecx := rfl
@[simp] theorem State.completeCpuid_edx (s : State) (r : Quad) : (s.completeCpuid r).edx = r.edx := rfl
@[simp] theorem State.completeCpuid_pc (s : State) (r : Quad) : (s.completeCpuid r).pc = s.nextPc := rfl
@[simp] theorem State.completeCpuid_pcWidth (s : State) (r : Quad) : (s.completeCpuid r).pcWidth = s.pcWidth := rfl
@[simp] theorem State.completeCpuid_mem (s : State) (r : Quad) : (s.completeCpuid r).mem = s.mem := rfl
@[simp] theorem State.completeCpuid_cfg (s : State) (r : Quad) : (s.completeCpuid r).cfg = s.cfg := rfl
@[simp] theorem State.completeCpuid_nameString (s : State) (r : Quad) : (s.completeCpuid r).nameString = s.nameString := rfl
@[simp] theorem State.completeCpuid_apicEnabled (s : State) (r : Quad) : (s.completeCpuid r).apicEnabled = s.apicEnabled := rfl
@[simp] theorem State.completeCpuid_coreIndex (s : State) (r : Quad) : (s.completeCpuid r).coreIndex = s.coreIndex := rfl
@[simp] theorem State.completeCpuid_drawCount (s : State) (r : Quad) : (s.completeCpuid r).drawCount = s.drawCount + 1 := rfl
@[simp] theorem State.completeCpuid_stepCount (s : State) (r : Quad) : (s.completeCpuid r).stepCount = s.stepCount := rfl
@[simp] theorem State.completeCpuid_regs (s : State) (r : Quad) : (s.completeCpuid r).regs = r := rfl

end completeCpuid

section takeInput

@[simp] theorem State.takeInput_eax (s : State) : s.takeInput.eax = s.eax := rfl
@[simp] theorem State.takeInput_ebx (s : State) : s.takeInput.ebx = s.ebx := rfl
@[simp] theorem State.takeInput_ecx (s : State) : s.takeInput.ecx = s.ecx := rfl
@[simp] theorem State.takeInput_edx (s : State) : s.takeInput.edx = s.edx := rfl
@[simp] theorem State.takeInput_pc (s : State) : s.takeInput.pc = s.pc := rfl
@[simp] theorem State.takeInput_pcWidth (s : State) : s.takeInput.pcWidth = s.pcWidth := rfl
@[simp] theorem State.takeInput_mem (s : State) : s.takeInput.mem = s.mem := rfl
@[simp] theorem State.takeInput_cfg (s : State) : s.takeInput.cfg = s.cfg := rfl
@[simp] theorem State.takeInput_nameString (s : State) : s.takeInput.nameString = s.nameString := rfl
@[simp] theorem State.takeInput_apicEnabled (s : State) : s.takeInput.apicEnabled = Config.apicInput s.coreIndex s.stepCount := rfl
@[simp] theorem State.takeInput_coreIndex (s : State) : s.takeInput.coreIndex = s.coreIndex := rfl
@[simp] theorem State.takeInput_drawCount (s : State) : s.takeInput.drawCount = s.drawCount := rfl
@[simp] theorem State.takeInput_stepCount (s : State) : s.takeInput.stepCount = s.stepCount + 1 := rfl
@[simp] theorem State.takeInput_draws (s : State) : s.takeInput.draws = s.draws := rfl
@[simp] theorem State.takeInput_selector (s : State) : s.takeInput.selector = s.eax := rfl
@[simp] theorem State.selector_eq (s : State) : s.selector = s.eax := rfl

end takeInput

section writeReg

@[simp] theorem State.writeReg_eax_eax (s : State) (v : Word) : (s.writeReg .eax v).eax = v := rfl
@[simp] theorem State.writeReg_ebx_eax (s : State) (v : Word) : (s.writeReg .ebx v).eax = s.eax := rfl
@[simp] theorem State.writeReg_ecx_eax (s : State) (v : Word) : (s.writeReg .ecx v).eax = s.eax := rfl
@[simp] theorem State.writeReg_edx_eax (s : State) (v : Word) : (s.writeReg .edx v).eax = s.eax := rfl
@[simp] theorem State.writeReg_eax_ebx (s : State) (v : Word) : (s.writeReg .eax v).ebx = s.ebx := rfl
@[simp] theorem State.writeReg_ebx_ebx (s : State) (v : Word) : (s.writeReg .ebx v).ebx = v := rfl
@[simp] theorem State.writeReg_ecx_ebx (s : State) (v : Word) : (s.writeReg .ecx v).ebx = s.ebx := rfl
@[simp] theorem State.writeReg_edx_ebx (s : State) (v : Word) : (s.writeReg .edx v).ebx = s.ebx := rfl
@[simp] theorem State.writeReg_eax_ecx (s : State) (v : Word) : (s.writeReg .eax v).ecx = s.ecx := rfl
@[simp] theorem State.writeReg_ebx_ecx (s : State) (v : Word) : (s.writeReg .ebx v).ecx = s.ecx := rfl
@[simp] theorem State.writeReg_ecx_ecx (s : State) (v : Word) : (s.writeReg .ecx v).ecx = v := rfl
@[simp] theorem State.writeReg_edx_ecx (s : State) (v : Word) : (s.writeReg .edx v).ecx = s.ecx := rfl
@[simp] theorem State.writeReg_eax_edx (s : State) (v : Word) : (s.writeReg .eax v).edx = s.edx := rfl
@[simp] theorem State.writeReg_ebx_edx (s : State) (v : Word) : (s.writeReg .ebx v).edx = s.edx := rfl
@[simp] theorem State.writeReg_ecx_edx (s : State) (v : Word) : (s.writeReg .ecx v).edx = s.edx := rfl
@[simp] theorem State.writeReg_edx_edx (s : State) (v : Word) : (s.writeReg .edx v).edx = v := rfl
@[simp] theorem State.writeReg_pc (s : State) (r : Reg) (v : Word) : (s.writeReg r v).pc = s.pc := by cases r <;> rfl
@[simp] theorem State.writeReg_pcWidth (s : State) (r : Reg) (v : Word) : (s.writeReg r v).pcWidth = s.pcWidth := by cases r <;> rfl
@[simp] theorem State.writeReg_mem (s : State) (r : Reg) (v : Word) : (s.writeReg r v).mem = s.mem := by cases r <;> rfl
@[simp] theorem State.writeReg_cfg (s : State) (r : Reg) (v : Word) : (s.writeReg r v).cfg = s.cfg := by cases r <;> rfl
@[simp] theorem State.writeReg_nameString (s : State) (r : Reg) (v : Word) : (s.writeReg r v).nameString = s.nameString := by cases r <;> rfl
@[simp] theorem State.writeReg_apicEnabled (s : State) (r : Reg) (v : Word) : (s.writeReg r v).apicEnabled = s.apicEnabled := by cases r <;> rfl
@[simp] theorem State.writeReg_coreIndex (s : State) (r : Reg) (v : Word) : (s.writeReg r v).coreIndex = s.coreIndex := by cases r <;> rfl
@[simp] theorem State.writeReg_drawCount (s : State) (r : Reg) (v : Word) : (s.writeReg r v).drawCount = s.drawCount := by cases r <;> rfl
@[simp] theorem State.writeReg_stepCount (s : State) (r : Reg) (v : Word) : (s.writeReg r v).stepCount = s.stepCount := by cases r <;> rfl

/-- Read after write of a general register. -/
theorem State.readReg_writeReg (s : State) (r q : Reg) (v : Word) :
    (s.writeReg r v).readReg q = if q = r then v else s.readReg q := by
  cases r <;> cases q <;> rfl

end writeReg

section loadBytes

@[simp] theorem State.loadBytes_eax (s : State) (a : Addr) (bytes : List Byte) : (s.loadBytes a bytes).eax = s.eax := by
  induction bytes generalizing s a with
  | nil => rfl
  | cons b rest ih => simp [State.loadBytes, ih]

@[simp] theorem State.loadBytes_ebx (s : State) (a : Addr) (bytes : List Byte) : (s.loadBytes a bytes).ebx = s.ebx := by
  induction bytes generalizing s a with
  | nil => rfl
  | cons b rest ih => simp [State.loadBytes, ih]

@[simp] theorem State.loadBytes_ecx (s : State) (a : Addr) (bytes : List Byte) : (s.loadBytes a bytes).ecx = s.ecx := by
  induction bytes generalizing s a with
  | nil => rfl
  | cons b rest ih => simp [State.loadBytes, ih]

@[simp] theorem State.loadBytes_edx (s : State) (a : Addr) (bytes : List Byte) : (s.loadBytes a bytes).edx = s.edx := by
  induction bytes generalizing s a with
  | nil => rfl
  | cons b rest ih => simp [State.loadBytes, ih]

@[simp] theorem State.loadBytes_pc (s : State) (a : Addr) (bytes : List Byte) : (s.loadBytes a bytes).pc = s.pc := by
  induction bytes generalizing s a with
  | nil => rfl
  | cons b rest ih => simp [State.loadBytes, ih]

@[simp] theorem State.loadBytes_pcWidth (s : State) (a : Addr) (bytes : List Byte) : (s.loadBytes a bytes).pcWidth = s.pcWidth := by
  induction bytes generalizing s a with
  | nil => rfl
  | cons b rest ih => simp [State.loadBytes, ih]

@[simp] theorem State.loadBytes_cfg (s : State) (a : Addr) (bytes : List Byte) : (s.loadBytes a bytes).cfg = s.cfg := by
  induction bytes generalizing s a with
  | nil => rfl
  | cons b rest ih => simp [State.loadBytes, ih]

@[simp] theorem State.loadBytes_nameString (s : State) (a : Addr) (bytes : List Byte) : (s.loadBytes a bytes).nameString = s.nameString := by
  induction bytes generalizing s a with
  | nil => rfl
  | cons b rest ih => simp [State.loadBytes, ih]

@[simp] theorem State.loadBytes_apicEnabled (s : State) (a : Addr) (bytes : List Byte) : (s.loadBytes a bytes).apicEnabled = s.apicEnabled := by
  induction bytes generalizing s a with
  | nil => rfl
  | cons b rest ih => simp [State.loadBytes, ih]

@[simp] theorem State.loadBytes_coreIndex (s : State) (a : Addr) (bytes : List Byte) : (s.loadBytes a bytes).coreIndex = s.coreIndex := by
  induction bytes generalizing s a with
  | nil => rfl
  | cons b rest ih => simp [State.loadBytes, ih]

@[simp] theorem State.loadBytes_drawCount (s : State) (a : Addr) (bytes : List Byte) : (s.loadBytes a bytes).drawCount = s.drawCount := by
  induction bytes generalizing s a with
  | nil => rfl
  | cons b rest ih => simp [State.loadBytes, ih]

@[simp] theorem State.loadBytes_stepCount (s : State) (a : Addr) (bytes : List Byte) : (s.loadBytes a bytes).stepCount = s.stepCount := by
  induction bytes generalizing s a with
  | nil => rfl
  | cons b rest ih => simp [State.loadBytes, ih]

end loadBytes

end Sys2Proof.Machine
end

