-- ==== Sys2Proof/Laws/Memory.lean ====
section
/-! SUPPORT. The laws of memory: read after write, and the canonical form that every operation keeps. -/

namespace Sys2Proof.Machine

/-- What a read gives after a write: the byte written at its address, and elsewhere what was there. -/
theorem Memory.read_write (m : Memory) (x y : Nat) (v : Byte) :
    Memory.read (Memory.write m x v) y = if y = x then some v else Memory.read m y := by
  induction m with
  | nil => simp [Memory.write, Memory.read]
  | cons c rest ih =>
    obtain ⟨a, b⟩ := c
    unfold Memory.write
    by_cases h1 : x < a
    · by_cases hy : y = x <;> simp [Memory.read, h1, hy]
    · by_cases h2 : x = a
      · subst h2
        by_cases hy : y = x <;> simp [Memory.read, hy]
      · by_cases hy : y = x
        · subst hy
          simp [Memory.read, h1, h2, ih]
        · simp [Memory.read, h1, h2, ih, hy]

/-- Every entry after a write is the one written or was there before. -/
theorem Memory.mem_write {m : Memory} {x : Nat} {v : Byte} {c : Host.Cell} (h : c ∈ Memory.write m x v) :
    c = (x, v) ∨ c ∈ m := by
  induction m with
  | nil => simpa [Memory.write] using h
  | cons d rest ih =>
    obtain ⟨a, b⟩ := d
    unfold Memory.write at h
    split_ifs at h with h1 h2
    · simpa using h
    · rcases List.mem_cons.mp h with h | h
      · exact .inl h
      · exact .inr (List.mem_cons_of_mem _ h)
    · rcases List.mem_cons.mp h with h | h
      · exact .inr (h ▸ List.mem_cons_self)
      · exact (ih h).imp id (List.mem_cons_of_mem _)

/-- A write keeps the canonical form. -/
theorem Memory.wf_write {m : Memory} (h : Memory.wf m = true) (x : Nat) (v : Byte) : Memory.wf (Memory.write m x v) = true := by
  induction m with
  | nil => rfl
  | cons c rest ih =>
    obtain ⟨a, b⟩ := c
    simp only [Memory.wf, Bool.and_eq_true, List.all_eq_true, decide_eq_true_eq] at h ih
    obtain ⟨hall, hrest⟩ := h
    unfold Memory.write
    split_ifs with h1 h2
    · simp only [Memory.wf, Bool.and_eq_true, List.all_eq_true, decide_eq_true_eq]
      refine ⟨fun c hc => ?_, hall, hrest⟩
      rcases List.mem_cons.mp hc with rfl | hc
      · exact h1
      · exact h1.trans (hall c hc)
    · subst h2
      simp only [Memory.wf, Bool.and_eq_true, List.all_eq_true, decide_eq_true_eq]
      exact ⟨hall, hrest⟩
    · simp only [Memory.wf, Bool.and_eq_true, List.all_eq_true, decide_eq_true_eq]
      refine ⟨fun c hc => ?_, ih hrest⟩
      rcases Memory.mem_write hc with rfl | hc
      · show a < x
        omega
      · exact hall c hc

/-- Loading bytes keeps the canonical form. -/
theorem State.loadBytes_wf (s : State) (a : Addr) (bytes : List Byte) (h : Memory.wf s.mem = true) :
    Memory.wf (s.loadBytes a bytes).mem = true := by
  induction bytes generalizing s a with
  | nil => exact h
  | cons b rest ih => exact ih _ _ (Memory.wf_write h _ _)

/-- Placing a table row's word keeps the canonical form. -/
theorem State.placeRow_wf (s : State) (nbits w : Nat) (h : Memory.wf s.mem = true) :
    Memory.wf (s.placeRow nbits w).mem = true := by
  unfold State.placeRow
  dsimp only
  split
  · rw [State.writeReg_mem]
    exact State.loadBytes_wf s _ _ h
  · exact State.loadBytes_wf s _ _ h

/-- In canonical form a read does not depend on where in the list an entry stands: equal reads are equal memories. -/
theorem Memory.read_eq_none_of_lt {m : Memory} {x : Nat} (h : ∀ c ∈ m, x < c.1) : Memory.read m x = none := by
  induction m with
  | nil => rfl
  | cons c rest ih =>
    obtain ⟨a, b⟩ := c
    have hx : x ≠ a := (h (a, b) List.mem_cons_self).ne
    simp [Memory.read, hx, ih fun c hc => h c (List.mem_cons_of_mem _ hc)]

/-- Two memories in canonical form that read the same everywhere are equal data. -/
theorem Memory.ext_of_wf {m n : Memory} (hm : Memory.wf m = true) (hn : Memory.wf n = true)
    (h : ∀ a, Memory.read m a = Memory.read n a) : m = n := by
  induction m generalizing n with
  | nil =>
    cases n with
    | nil => rfl
    | cons c _ => have := h c.1; simp [Memory.read] at this
  | cons c rest ih =>
    obtain ⟨a, b⟩ := c
    cases n with
    | nil => have := h a; simp [Memory.read] at this
    | cons d rest' =>
      obtain ⟨a', b'⟩ := d
      simp only [Memory.wf, Bool.and_eq_true, List.all_eq_true, decide_eq_true_eq] at hm hn
      have ha : a = a' := by
        rcases Nat.lt_trichotomy a a' with hlt | heq | hgt
        · have h0 : Memory.read ((a', b') :: rest') a = none := Memory.read_eq_none_of_lt fun c hc => by
            rcases List.mem_cons.mp hc with rfl | hc
            · exact hlt
            · exact hlt.trans (hn.1 c hc)
          rw [← h a] at h0
          simp [Memory.read] at h0
        · exact heq
        · have h0 : Memory.read ((a, b) :: rest) a' = none := Memory.read_eq_none_of_lt fun c hc => by
            rcases List.mem_cons.mp hc with rfl | hc
            · exact hgt
            · exact hgt.trans (hm.1 c hc)
          rw [h a'] at h0
          simp [Memory.read] at h0
      subst ha
      have hb : b = b' := by simpa [Memory.read] using h a
      subst hb
      congr 1
      refine ih hm.2 hn.2 fun x => ?_
      by_cases hx : x = a
      · subst hx
        rw [Memory.read_eq_none_of_lt hm.1, Memory.read_eq_none_of_lt hn.1]
      · simpa [Memory.read, hx] using h x

end Sys2Proof.Machine
end

