-- ==== Sys2Proof/Laws/Ops.lean ====
section
/-! SUPPORT. What each shared operation can do, said once. -/

namespace Sys2Proof.Machine

/-- A reduced address is not reduced further. -/
@[simp] theorem PcWidth.wrap_wrap (w : PcWidth) (a : Addr) : w.wrap (w.wrap a) = w.wrap a := by
  apply BitVec.eq_of_toNat_eq
  cases w <;> simp [PcWidth.wrap, PcWidth.bits]

/-- The address of a later byte lies within the width of the program counter. -/
@[simp] theorem State.wrap_addressAfter (s : State) (a n : Addr) :
    s.pcWidth.wrap (s.addressAfter a n) = s.addressAfter a n := PcWidth.wrap_wrap _ _

/-- The program counter after CPUID lies within its width. -/
@[simp] theorem State.wrap_nextPc (s : State) : s.pcWidth.wrap s.nextPc = s.nextPc := PcWidth.wrap_wrap _ _

/-- An address within the width is where a fetch of no further bytes stands. -/
theorem State.addressAfter_zero (s : State) (a : Addr) : s.addressAfter a 0 = s.pcWidth.wrap a := by
  simp [State.addressAfter]

/-- The bytes of a fetch depend on memory and the width alone. -/
theorem State.bytesFrom_congr {s t : State} (hm : t.mem = s.mem) (hw : t.pcWidth = s.pcWidth) (n : Nat) (a : Addr) :
    t.bytesFrom n a = s.bytesFrom n a := by
  induction n generalizing a with
  | zero => rfl
  | succ n ih => simp [State.bytesFrom, hm, State.addressAfter, hw, ih]

/-- The environment's input changes nothing that a fetch reads. -/
@[simp] theorem State.takeInput_fetchBytes (s : State) : s.takeInput.fetchBytes = s.fetchBytes :=
  State.bytesFrom_congr rfl rfl _ _

/-- A listed byte is fetched, and the fetch goes on after it. -/
theorem State.bytesFrom_some {s : State} {a : Addr} {b : Byte} (h : Memory.read s.mem a.toNat = some b) (n : Nat) :
    s.bytesFrom (n + 1) a = b :: s.bytesFrom n (s.addressAfter a 1) := by
  rw [State.bytesFrom, h]

/-- A fetch ends where nothing is listed. -/
theorem State.bytesFrom_none {s : State} {a : Addr} (h : Memory.read s.mem a.toNat = none) (n : Nat) :
    s.bytesFrom n a = [] := by
  cases n with
  | zero => rfl
  | succ n => rw [State.bytesFrom, h]

/-- What a fetch sees where the first two bytes are listed. -/
theorem State.fetchBytes_of_two {s : State} {b0 b1 : Byte} (h0 : Memory.read s.mem s.pc.toNat = some b0)
    (h1 : Memory.read s.mem (s.addressAfter s.pc 1).toNat = some b1) :
    ∃ rest, s.fetchBytes = b0 :: b1 :: rest := by
  exact ⟨s.bytesFrom 13 (s.addressAfter (s.addressAfter s.pc 1) 1),
    (State.bytesFrom_some h0 14).trans (congrArg _ (State.bytesFrom_some h1 13))⟩

/-- What a fetch sees where nothing is listed at the program counter. -/
theorem State.fetchBytes_of_none {s : State} (h : Memory.read s.mem s.pc.toNat = none) : s.fetchBytes = [] :=
  State.bytesFrom_none h 15

/-- What a fetch sees where only the first byte is listed. -/
theorem State.fetchBytes_of_one {s : State} {b0 : Byte} (h0 : Memory.read s.mem s.pc.toNat = some b0)
    (h1 : Memory.read s.mem (s.addressAfter s.pc 1).toNat = none) : s.fetchBytes = [b0] :=
  (State.bytesFrom_some h0 14).trans (congrArg _ (State.bytesFrom_none h1 14))

/-- An execution of CPUID has the frame, whatever it returns. -/
theorem State.completeCpuid_frame (s : State) (r : Quad) : CpuidFrame s (s.completeCpuid r) where
  pc := rfl
  drawCount := rfl
  pcWidth := rfl
  cfg := rfl
  nameString := rfl
  apicEnabled := rfl
  coreIndex := rfl
  stepCount := rfl
  memory := fun _ => rfl

/-- What a standard function can do: the words it defines, or four draws. -/
theorem standardWords_cases (cfg : Cfg) (d : Quad) (fn : Word) (words : Quad) :
    (isStandard cfg fn = true ∧ standardWords cfg d fn words = words) ∨
      (isStandard cfg fn = false ∧ standardWords cfg d fn words = d) := by
  cases h : isStandard cfg fn <;> simp [standardWords, unspecified, h]

/-- What an extended function can do: the words it defines, or four draws. -/
theorem extendedWords_cases (cfg : Cfg) (d : Quad) (fn : Word) (words : Quad) :
    (isExtended cfg fn = true ∧ extendedWords cfg d fn words = words) ∨
      (isExtended cfg fn = false ∧ extendedWords cfg d fn words = d) := by
  cases h : isExtended cfg fn <;> simp [extendedWords, unspecified, h]

/-- All that a step can do: run an instruction on the state with its input taken, or stop as the fetch says. -/
theorem step_cases (s : State) :
    (∃ i, s.takeInput.fetchInstr = .ok i ∧ step s = exec i s.takeInput) ∨
      (∃ r, s.takeInput.fetchInstr = .error (.fault r) ∧ step s = .fault r) ∨
      (∃ r, s.takeInput.fetchInstr = .error (.refused r) ∧ step s = .refused r) := by
  unfold step
  dsimp only
  cases h : s.takeInput.fetchInstr with
  | ok i => exact .inl ⟨i, rfl, rfl⟩
  | error e =>
    cases e with
    | fault r => exact .inr (.inl ⟨r, rfl, rfl⟩)
    | refused r => exact .inr (.inr ⟨r, rfl, rfl⟩)

end Sys2Proof.Machine
end

