-- ==== Sys2Proof/Laws/PerInstr.lean ====
section
/-! SUPPORT. The per-instruction family: a function row's number selects that row. -/

namespace Sys2Proof.Laws.FunctionMap

/-- The function-select map sends the number of a function row to that row (30_encoding.md R45). The row CPUID has no
number: it encodes as the same two bytes, which the byte decoder reads as it. -/
def Statement (i : Instr) : Prop :=
  (∀ fn, i.functionNumber = some fn → selectFunction fn = i) ∧ decodeBytes (encode i) = .ok (.cpuid, [])

theorem cpuid : Statement .cpuid := ⟨fun _ h => (nomatch h), rfl⟩

theorem cpuidFn0000_0000 : Statement .cpuidFn0000_0000 := ⟨fun _ h => by cases h; rfl, rfl⟩

theorem cpuidFn0000_0001 : Statement .cpuidFn0000_0001 := ⟨fun _ h => by cases h; rfl, rfl⟩

theorem cpuidFn8000_0000 : Statement .cpuidFn8000_0000 := ⟨fun _ h => by cases h; rfl, rfl⟩

theorem cpuidFn8000_0001 : Statement .cpuidFn8000_0001 := ⟨fun _ h => by cases h; rfl, rfl⟩

theorem cpuidFn8000_0002 : Statement .cpuidFn8000_0002 := ⟨fun _ h => by cases h; rfl, rfl⟩

theorem cpuidFn8000_0003 : Statement .cpuidFn8000_0003 := ⟨fun _ h => by cases h; rfl, rfl⟩

theorem cpuidFn8000_0004 : Statement .cpuidFn8000_0004 := ⟨fun _ h => by cases h; rfl, rfl⟩

theorem cpuidFn8000_0005 : Statement .cpuidFn8000_0005 := ⟨fun _ h => by cases h; rfl, rfl⟩

theorem cpuidFn8000_0006 : Statement .cpuidFn8000_0006 := ⟨fun _ h => by cases h; rfl, rfl⟩

theorem cpuidFn8000_0007 : Statement .cpuidFn8000_0007 := ⟨fun _ h => by cases h; rfl, rfl⟩

theorem cpuidFn8000_0008 : Statement .cpuidFn8000_0008 := ⟨fun _ h => by cases h; rfl, rfl⟩

theorem cpuidFn8000_0009 : Statement .cpuidFn8000_0009 := ⟨fun _ h => by cases h; rfl, rfl⟩

theorem cpuidFn8000_000A : Statement .cpuidFn8000_000A := ⟨fun _ h => by cases h; rfl, rfl⟩

theorem cpuidFn8000_000B : Statement .cpuidFn8000_000B := ⟨fun _ h => by cases h; rfl, rfl⟩

theorem cpuidFn8000_000C : Statement .cpuidFn8000_000C := ⟨fun _ h => by cases h; rfl, rfl⟩

theorem cpuidFn8000_000D : Statement .cpuidFn8000_000D := ⟨fun _ h => by cases h; rfl, rfl⟩

theorem cpuidFn8000_000E : Statement .cpuidFn8000_000E := ⟨fun _ h => by cases h; rfl, rfl⟩

theorem cpuidFn8000_000F : Statement .cpuidFn8000_000F := ⟨fun _ h => by cases h; rfl, rfl⟩

theorem cpuidFn8000_0010 : Statement .cpuidFn8000_0010 := ⟨fun _ h => by cases h; rfl, rfl⟩

theorem cpuidFn8000_0011 : Statement .cpuidFn8000_0011 := ⟨fun _ h => by cases h; rfl, rfl⟩

theorem cpuidFn8000_0012 : Statement .cpuidFn8000_0012 := ⟨fun _ h => by cases h; rfl, rfl⟩

theorem cpuidFn8000_0013 : Statement .cpuidFn8000_0013 := ⟨fun _ h => by cases h; rfl, rfl⟩

theorem cpuidFn8000_0014 : Statement .cpuidFn8000_0014 := ⟨fun _ h => by cases h; rfl, rfl⟩

theorem cpuidFn8000_0015 : Statement .cpuidFn8000_0015 := ⟨fun _ h => by cases h; rfl, rfl⟩

theorem cpuidFn8000_0016 : Statement .cpuidFn8000_0016 := ⟨fun _ h => by cases h; rfl, rfl⟩

theorem cpuidFn8000_0017 : Statement .cpuidFn8000_0017 := ⟨fun _ h => by cases h; rfl, rfl⟩

theorem cpuidFn8000_0018 : Statement .cpuidFn8000_0018 := ⟨fun _ h => by cases h; rfl, rfl⟩

theorem cpuidFn8000_0019 : Statement .cpuidFn8000_0019 := ⟨fun _ h => by cases h; rfl, rfl⟩

end Sys2Proof.Laws.FunctionMap
end

