-- ==== Sys2Proof/Tests/Slice0.lean ====
section
/-! SUPPORT. The model's own tests. The expected values are those of spec/95_test_vectors.md (V1 to V87, S6 to S16, programs P1
to P5), which computed them from the rules; a test names its vectors. After them, one `witness_…` for each statement
that has hypotheses. -/

namespace Sys2Proof.Tests
open Sys2Proof.Machine

/-! ## Helpers -/

/-- Every draw of an execution with all bits 0, and with all bits 1. -/
def zeros : Quad := ⟨0, 0, 0, 0⟩
def ones : Quad := ⟨allBits, allBits, allBits, allBits⟩

/-- The configuration with every field 0. Not well formed: only the words of single functions are tested with it. -/
def bare : Cfg := default

/-- The illustration with every range of the source in reach, and SVM. -/
def wide : Cfg := { Config.illustration with maxExtFn := 0x80000019, svm := true }

/-- The name string of vector V40. -/
def name40 : NameString :=
  #v[0x41, 0x4D, 0x44, 0x20, 0x41, 0x74, 0x68, 0x6C, 0x6F, 0x6E, 0x28, 0x74, 0x6D, 0x29, 0x20, 0x36,
     0x34, 0x20, 0x58, 0x32, 0x20, 0x44, 0x75, 0x61, 0x6C, 0x20, 0x43, 0x6F, 0x72, 0x65, 0x20, 0x50,
     0x72, 0x6F, 0x63, 0x65, 0x73, 0x73, 0x6F, 0x72, 0x20, 0x34, 0x32, 0x30, 0x30, 0x2B, 0x00, 0x00]

/-- A core with a configuration, after reset, that holds a function number in EAX and bytes of text at 1000h. -/
def core (cfg : Cfg) (fn : Word) (text : List Byte) : State :=
  State.loadBytes { State.reset with cfg := cfg, nameString := name40, apicEnabled := true, eax := fn, pc := 0x1000 } 0x1000 text

/-- The core of the tests: `wide`, with one CPUID at its program counter. -/
def demo (fn : Word) : State := core wide fn [0x0F#8, 0xA2#8]

/-- The four registers after an outcome. -/
def regsOf : Host.Outcome State Fault Refusal → Option Quad
  | .next t => some t.regs
  | .fault _ => none
  | .refused _ => none

/-- The program counter after an outcome. -/
def pcOf : Host.Outcome State Fault Refusal → Option Addr
  | .next t => some t.pc
  | .fault _ => none
  | .refused _ => none

/-- `CpuidResult` of a configuration with the APIC enabled and the name string of V40. -/
def resultOf (cfg : Cfg) (d : Quad) (fn : Word) : Quad := cpuidResult cfg name40 true d fn

/-! ## WellFormed: each check takes a good term and refuses an ill-formed one -/

theorem test_wf_illustration : Config.illustration.wellFormed = true ∧ wide.wellFormed = true := by decide

theorem test_wf_refuses_maxStdFn_zero : { Config.illustration with maxStdFn := 0x00000000 }.rangesValid = false := by decide

theorem test_wf_refuses_maxStdFn_extended : { Config.illustration with maxStdFn := 0x80000000 }.rangesValid = false := by decide

theorem test_wf_refuses_maxExtFn_standard : { Config.illustration with maxExtFn := 0x7FFFFFFF }.rangesValid = false := by decide

theorem test_wf_refuses_family_below_0F : { Config.illustration with baseFamily := 0x6 }.familyValid = false := by decide

theorem test_wf_refuses_family_above_FF : { Config.illustration with extFamily := 0xF1 }.familyValid = false := by decide

theorem test_wf_refuses_wrong_thread_count : { Config.illustration with logicalProcessorCount := 0x04 }.coresValid = false := by
  decide

theorem test_wf_refuses_legacy_without_htt : { Config.illustration with htt := false }.coresValid = false := by decide

theorem test_wf_refuses_two_threads_per_core : { Config.illustration with cmpLegacy := false }.coresValid = false := by decide

/-- V87: 256 cores do not fit LogicalProcessorCount. -/
theorem test_wf_refuses_256_cores :
    { Config.illustration with nc := 0xFF, logicalProcessorCount := 0x00 }.coresValid = false := by decide

theorem test_wf_refuses_l1_code_00 :
    [{ Config.illustration with l1DTlb2and4MAssoc := 0x00 }, { Config.illustration with l1ITlb2and4MAssoc := 0x00 },
      { Config.illustration with l1DTlb4KAssoc := 0x00 }, { Config.illustration with l1ITlb4KAssoc := 0x00 },
      { Config.illustration with l1DcAssoc := 0x00 }, { Config.illustration with l1IcAssoc := 0x00 }].all
        (fun c => !c.assocValid) = true := by decide

theorem test_wf_refuses_l2_code_3 :
    [{ Config.illustration with l2DTlb2and4MAssoc := 0x3 }, { Config.illustration with l2ITlb2and4MAssoc := 0x3 },
      { Config.illustration with l2DTlb4KAssoc := 0x3 }, { Config.illustration with l2ITlb4KAssoc := 0x3 },
      { Config.illustration with l2Assoc := 0x3 }].all (fun c => !c.assocValid) = true := by decide

/-- The reserved codes of Table 1 (section 2.10). -/
theorem test_wf_assoc4_reserved :
    [0x3#4, 0x5#4, 0x7#4, 0x9#4, 0xA#4, 0xB#4, 0xC#4, 0xD#4, 0xE#4].all (fun a => !assoc4Valid a) = true := by decide

theorem test_wf_selector_of_row :
    Instr.cpuidFn8000_0008.wellFormedFor 0x80000008 = true ∧ Instr.cpuidFn8000_0008.wellFormedFor 0x80000007 = false ∧
      Instr.cpuid.wellFormedFor 0x8000001A = true ∧ Instr.cpuid.wellFormedFor 0x80000019 = false := by decide

theorem test_wf_name_is_ascii : name40.programmable = true ∧ NameString.programmable (name40.set 0 0x80) = false := by decide

theorem test_wf_name_has_a_null : NameString.programmable (Vector.replicate 48 0x41#8) = false := by decide

theorem test_wf_processor :
    processorWellFormed [Config.illustration, { Config.illustration with localApicId := 0x00 }] = true ∧
      processorWellFormed [Config.illustration] = false ∧
      processorWellFormed [Config.illustration, { Config.illustration with localApicId := 0x00, apicIdCoreIdSize := 0x1 }] = false ∧
      processorWellFormed [Config.illustration, { Config.illustration with localApicId := 0x00, baseFamily := 0x6 }] = false ∧
      processorWellFormed [Config.illustration, Config.illustration] = false := by decide

theorem test_wf_apic_ids :
    localApicIdsDistinct [Config.illustration, { Config.illustration with localApicId := 0x00 }] = true ∧
      localApicIdsDistinct [Config.illustration, Config.illustration] = false := by decide

/-- R149: three cores and a maximum of two do not go together. -/
theorem test_wf_cores_fit_maximum :
    { Config.illustration with nc := 0x02, logicalProcessorCount := 0x03, apicIdCoreIdSize := 0x2 }.wellFormed = true ∧
      { Config.illustration with nc := 0x02, logicalProcessorCount := 0x03, apicIdCoreIdSize := 0x1 }.coresFitMaximum = false ∧
      { Config.illustration with nc := 0x02, logicalProcessorCount := 0x03, apicIdCoreIdSize := 0x1 }.wellFormed = false := by
  decide

theorem test_memory_wf : Memory.wf [(1, 0x0F#8), (2, 0xA2#8)] = true ∧ Memory.wf [(2, 0xA2#8), (1, 0x0F#8)] = false ∧
    Memory.wf [(1, 0x0F#8), (1, 0xA2#8)] = false := by decide

/-! ## Decoding -/

/-- 30_encoding.md R40: byte 0 is 0Fh, byte 1 is A2h; the table's encoding is 0000111110100010. -/
theorem test_decode_cpuid :
    decodeBytes [0b00001111#8, 0b10100010#8] = .ok (.cpuid, []) ∧ decodeTableWord 16 0b0000111110100010 = some .cpuid := by
  decide

theorem test_encode_cpuid : encode .cpuid = [0b00001111#8, 0b10100010#8] := by decide

/-- Every function row, from the function number that the table gives it. -/
theorem test_decode_standard_rows :
    [0x00000000, 0x00000001].map (decodeTableWord 32) = [some .cpuidFn0000_0000, some .cpuidFn0000_0001] := by decide

theorem test_decode_identity_rows :
    [0x80000000, 0x80000001, 0x80000002, 0x80000003, 0x80000004].map (decodeTableWord 32) =
      [some .cpuidFn8000_0000, some .cpuidFn8000_0001, some .cpuidFn8000_0002, some .cpuidFn8000_0003,
        some .cpuidFn8000_0004] := by decide

theorem test_decode_cache_rows :
    [0x80000005, 0x80000006].map (decodeTableWord 32) = [some .cpuidFn8000_0005, some .cpuidFn8000_0006] := by decide

theorem test_decode_power_and_svm_rows :
    [0x80000007, 0x80000008, 0x80000009, 0x8000000A].map (decodeTableWord 32) =
      [some .cpuidFn8000_0007, some .cpuidFn8000_0008, some .cpuidFn8000_0009, some .cpuidFn8000_000A] := by decide

theorem test_decode_reserved_rows_low :
    [0x8000000B, 0x8000000C, 0x8000000D, 0x8000000E, 0x8000000F, 0x80000010, 0x80000011].map (decodeTableWord 32) =
      [some .cpuidFn8000_000B, some .cpuidFn8000_000C, some .cpuidFn8000_000D, some .cpuidFn8000_000E,
        some .cpuidFn8000_000F, some .cpuidFn8000_0010, some .cpuidFn8000_0011] := by decide

theorem test_decode_reserved_rows_high :
    [0x80000012, 0x80000013, 0x80000014, 0x80000015, 0x80000016, 0x80000017, 0x80000018, 0x80000019].map
        (decodeTableWord 32) =
      [some .cpuidFn8000_0012, some .cpuidFn8000_0013, some .cpuidFn8000_0014, some .cpuidFn8000_0015,
        some .cpuidFn8000_0016, some .cpuidFn8000_0017, some .cpuidFn8000_0018, some .cpuidFn8000_0019] := by decide

/-- A number that no row has is the row CPUID itself. -/
theorem test_decode_other_numbers :
    [0x00000002, 0x40000000, 0x7FFFFFFF, 0x8000001A, 0xFFFFFFFF].map (decodeTableWord 32) =
      List.replicate 5 (some .cpuid) := by decide

/-- R42: the same two bytes after an operand-size, a REP and a REX byte. -/
theorem test_decode_refuses_prefixed :
    decodeBytes [0x66#8, 0x0F#8, 0xA2#8] = .error .prefixedCpuid ∧
      decodeBytes [0xF3#8, 0x48#8, 0x0F#8, 0xA2#8] = .error .prefixedCpuid ∧
      decodeBytes [0x66#8, 0x0F#8, 0xA3#8] = .error .notCpuid := by decide

theorem test_decode_refuses_neighbours :
    decodeBytes [0x0F#8, 0xA1#8] = .error .notCpuid ∧ decodeBytes [0x0F#8, 0xA3#8] = .error .notCpuid ∧
      decodeBytes [0x0E#8, 0xA2#8] = .error .notCpuid ∧ decodeBytes [0xA2#8, 0x0F#8] = .error .notCpuid := by decide

theorem test_decode_truncated : decodeBytes [] = .error .incomplete ∧ decodeBytes [0x0F#8] = .error .incomplete := by decide

/-! ## The step -/

/-- Program P1, first instruction: from 1000h the program counter goes to 1002h. -/
theorem test_step_first_of_P1 :
    regsOf (step (core Config.illustration 0x00000000 [0x0F#8, 0xA2#8])) =
        some ⟨0x00000001, 0x68747541, 0x444D4163, 0x69746E65⟩ ∧
      pcOf (step (core Config.illustration 0x00000000 [0x0F#8, 0xA2#8])) = some 0x1002 := by decide

/-- The first step after reset runs the row that was placed. -/
theorem test_step_runs_placed_row :
    step (State.reset.withFetchWord 32 0x80000005) =
      exec .cpuidFn8000_0005 (State.reset.withFetchWord 32 0x80000005).takeInput := rfl

theorem test_step_runs_placed_cpuid :
    step (State.reset.withFetchWord 16 0x0FA2) = exec .cpuid (State.reset.withFetchWord 16 0x0FA2).takeInput := rfl

theorem test_step_stops :
    step State.reset = .fault (.fetchAbsent 0) ∧ step (core wide 0 [0x0F#8]) = .fault (.fetchAbsent 0x1001) ∧
      step (core wide 0 [0x66#8, 0x0F#8, 0xA2#8]) = .refused .prefixedCpuid ∧
      step (core wide 0 [0x90#8, 0x90#8]) = .refused .outsideSpec := ⟨rfl, rfl, rfl, rfl⟩

/-- The program counter wraps at its width. -/
theorem test_pc_wraps :
    { demo 0 with pc := 0xFFFFFFFE }.nextPc = 0x0 ∧ { demo 0 with pcWidth := .w16, pc := 0xFFFF }.nextPc = 0x1 ∧
      { demo 0 with pcWidth := .w64, pc := 0xFFFFFFFE }.nextPc = 0x100000000 := by decide

/-! ## CPUID as a whole: dispatch and ranges (V1 to V19) -/

/-- V1 to V10. -/
theorem test_cpuid_dispatch_narrow :
    resultOf Config.illustration ones 0x00000000 = fn0000_0000 Config.illustration ∧
      resultOf Config.illustration ones 0x00000001 = fn0000_0001 Config.illustration true ones ∧
      resultOf Config.illustration ones 0x80000000 = fn8000_0000 Config.illustration ∧
      resultOf Config.illustration ones 0x80000008 = fn8000_0008 Config.illustration ones ∧
      [0x00000002#32, 0x7FFFFFFF#32, 0x80000009#32, 0x8000000A#32, 0xFFFFFFFF#32, 0x40000000#32].all
        (fun fn => isUndefined Config.illustration fn && decide (resultOf Config.illustration ones fn = ones)) = true := by
  decide

/-- V11 to V19. -/
theorem test_cpuid_dispatch_wide :
    let cfg : Cfg := { wide with maxStdFn := 0x00000005, maxExtFn := 0x8000001B }
    resultOf cfg ones 0x8000000A = fn8000_000A cfg ones ∧
      [0x00000002#32, 0x00000005#32, 0x80000009#32, 0x80000019#32, 0x8000001A#32, 0x8000001B#32].all
        (fun fn => !isUndefined cfg fn && decide (resultOf cfg ones fn = ones)) = true ∧
      [0x00000006#32, 0x8000001C#32].all (fun fn => isUndefined cfg fn && decide (resultOf cfg ones fn = ones)) = true ∧
      resultOf { cfg with svm := false } ones 0x8000000A = ones := by decide

/-! ## Fn0000_0000 and Fn8000_0000 (V20 to V24, S7) -/

theorem test_fn0000_0000 :
    regsOf (exec .cpuidFn0000_0000 (demo 0)) = some ⟨0x00000001, 0x68747541, 0x444D4163, 0x69746E65⟩ ∧
      fn0000_0000 { wide with maxStdFn := 0x7FFFFFFF } = ⟨0x7FFFFFFF, 0x68747541, 0x444D4163, 0x69746E65⟩ := by decide

theorem test_fn8000_0000 :
    regsOf (exec .cpuidFn8000_0000 (core { wide with maxExtFn := 0x80000000 } 0 [])) =
        some ⟨0x80000000, 0x68747541, 0x444D4163, 0x69746E65⟩ ∧
      fn8000_0000 { wide with maxExtFn := 0xFFFFFFFF } = ⟨0xFFFFFFFF, 0x68747541, 0x444D4163, 0x69746E65⟩ := by decide

/-- "Storing EBX, EDX, ECX in that order, least significant byte first" (section 2.2). -/
theorem test_vendor_text :
    vendorText ⟨0, 0x68747541, 0x444D4163, 0x69746E65⟩ =
      [0x41#8, 0x75#8, 0x74#8, 0x68#8, 0x65#8, 0x6E#8, 0x74#8, 0x69#8, 0x63#8, 0x41#8, 0x4D#8, 0x44#8] := by decide

/-! ## Fn0000_0001 (V25 to V39e) -/

/-- V25, V27, V28, V29 and V26 (S8): the signature, the family and the model. -/
theorem test_signature :
    signature Config.illustration = 0x00020F32 ∧
      signature { bare with extModel := 0xE, baseFamily := 0xF, baseModel := 0x8, stepping := 0x1 } = 0x000E0F81 ∧
      signature { bare with extFamily := 0xF0, extModel := 0xF, baseFamily := 0xF, baseModel := 0xF, stepping := 0xF } =
        0x0F0F0FFF ∧
      familyOf 0x00100F20 = 0x10 ∧ modelOf 0x00100F20 = 0x02 ∧ familyOf 0x0F0F0FFF = 0xFF ∧ modelOf 0x000E0F81 = 0xE8 ∧
      familyOf 0x00000F00 = 0x0F ∧ modelOf 0x00000F00 = 0x00 := by decide

/-- V30, V31, V32, V33. -/
theorem test_misc1 :
    misc1 Config.illustration allBits = 0x01020800 ∧
      misc1 { bare with localApicId := 0x03, htt := true, logicalProcessorCount := 0x04, clFlush := 0x08 } 0 = 0x03040800 ∧
      misc1 { bare with clFlush := 0x08, brandId8 := 0x12 } 0x5AA55A5A = 0x00A50812 ∧
      misc1 { bare with clFlush := 0x08, brandId8 := 0x12, logicalProcessorCount := 0x77 } 0 = 0x00000812 ∧
      clflushBytes 0x01020800 = 64 := by decide

/-- V34 to V37. -/
theorem test_feat1C :
    feat1C { bare with sse3 := true } 0 = 0x00000001 ∧ feat1C { bare with sse3 := true, cmpxchg16b := true } 0 = 0x00002001 ∧
      feat1C { bare with sse3 := true, cmpxchg16b := true } allBits = 0x7FFFFFFF ∧ feat1C bare allBits = 0x7FFFDFFE := by decide

/-- V38, V39, V39a to V39e. -/
theorem test_feat1D :
    feat1D Config.illustration true 0 = 0x178BFBFF ∧ feat1D { Config.illustration with htt := false } true 0 = 0x078BFBFF ∧
      feat1D { Config.illustration with htt := false } true allBits = 0xEFFFFFFF ∧
      feat1D Config.illustration false 0 = 0x178BF9FF ∧
      feat1D { Config.illustration with apicExists := false } true 0 = 0x178BF9FF ∧
      feat1D { bare with fpu := true, tsc := true, msr := true, cmpxchg8b := true, apicExists := true } true 0 = 0x00000331 ∧
      feat1D bare true 0 = 0 := by decide

/-- Each feature bit of Fn0000_0001_EDX alone (section 2.6), except the APIC's, which V39d has. -/
theorem test_feat1D_positions :
    [{ bare with fpu := true }, { bare with vme := true }, { bare with de := true }, { bare with pse := true },
      { bare with tsc := true }, { bare with msr := true }, { bare with pae := true }, { bare with mce := true },
      { bare with cmpxchg8b := true }, { bare with sysEnterSysExit := true }, { bare with mtrr := true },
      { bare with pge := true }, { bare with mca := true }, { bare with cmov := true }, { bare with pat := true },
      { bare with pse36 := true }, { bare with clfsh := true }, { bare with mmx := true }, { bare with fxsr := true },
      { bare with sse := true }, { bare with sse2 := true }, { bare with htt := true }].map (fun c => feat1D c true 0) =
    [0x00000001#32, 0x00000002#32, 0x00000004#32, 0x00000008#32, 0x00000010#32, 0x00000020#32, 0x00000040#32, 0x00000080#32,
      0x00000100#32, 0x00000800#32, 0x00001000#32, 0x00002000#32, 0x00004000#32, 0x00008000#32, 0x00010000#32, 0x00020000#32,
      0x00080000#32, 0x00800000#32, 0x01000000#32, 0x02000000#32, 0x04000000#32, 0x10000000#32] := by decide

/-! ## Fn8000_0001 (V41 to V49) -/

/-- V41 to V46. -/
theorem test_brand_and_featXC :
    brand Config.illustration 0 = 0x00000105 ∧ brand Config.illustration allBits = 0xFFFF0105 ∧
      featXC Config.illustration 0 = 0x00000003 ∧ featXC { wide with altMovCr8 := true } 0 = 0x00000017 ∧
      featXC { wide with altMovCr8 := true } allBits = 0xFFFFFFFF ∧
      featXC { bare with lahfSahf := true, svm := true } 0 = 0x00000005 := by decide

/-- V47 to V49, and the bits that exist only here. -/
theorem test_featXD :
    featXD Config.illustration true 0 = 0xEBD3FBFF ∧ featXD Config.illustration false 0 = 0xEBD3F9FF ∧
      featXD Config.illustration true allBits = 0xFFFFFFFF ∧
      [{ bare with sysCallSysRet := true }, { bare with nx := true }, { bare with mmxExt := true }, { bare with ffxsr := true },
        { bare with rdtscp := true }, { bare with lm := true }, { bare with threeDNowExt := true },
        { bare with threeDNow := true }, { bare with sse := true }, { bare with sysEnterSysExit := true }].map
          (fun c => featXD c true 0) =
      [0x00000800#32, 0x00100000#32, 0x00400000#32, 0x02000000#32, 0x08000000#32, 0x20000000#32, 0x40000000#32, 0x80000000#32,
        0#32, 0#32] := by decide

/-! ## Fn8000_0002 to Fn8000_0004 (V40 to V40b) -/

theorem test_fn8000_0002 :
    regsOf (exec .cpuidFn8000_0002 (demo 0)) = some ⟨0x20444D41, 0x6C687441, 0x74286E6F, 0x3620296D⟩ := by decide

theorem test_fn8000_0003 :
    regsOf (exec .cpuidFn8000_0003 (demo 0)) = some ⟨0x32582034, 0x61754420, 0x6F43206C, 0x50206572⟩ := by decide

theorem test_fn8000_0004 :
    regsOf (exec .cpuidFn8000_0004 (demo 0)) = some ⟨0x65636F72, 0x726F7373, 0x30323420, 0x00002B30⟩ := by decide

/-- V40b: the terminator is in bits 31:24 of the last word. -/
theorem test_name_terminator :
    nameWords ((Vector.replicate 48 0x41#8).set 47 0x00) 32 = ⟨0x41414141, 0x41414141, 0x41414141, 0x00414141⟩ := by decide

/-- Program P3: software stops at byte 46. -/
theorem test_display_name : (displayName name40.toList).length = 46 := by decide

/-! ## Fn8000_0005 and Fn8000_0006 (V50 to V63, S10, S16) -/

/-- V50 to V53. -/
theorem test_fn8000_0005 :
    regsOf (exec .cpuidFn8000_0005 (demo 0)) = some ⟨0xFF08FF08, 0xFF20FF20, 0x40020140, 0x40020140⟩ := by decide

/-- V54: data and instruction sides differ. The instruction cache differs from the data cache as well. -/
theorem test_fn8000_0005_sides :
    let cfg : Cfg :=
      { Config.illustration with
        l1DTlb2and4MAssoc := 0x04
        l1DTlb2and4MSize := 0x07
        l1ITlb2and4MAssoc := 0x01
        l1ITlb2and4MSize := 0xFF
        l1IcSize := 0x20 }
    (fn8000_0005 cfg).eax = 0x040701FF ∧ (fn8000_0005 cfg).edx = 0x20020140 ∧ (fn8000_0005 cfg).ecx = 0x40020140 ∧
      entries4M 0x07 = 3 ∧ entries4M 0xFF = 127 := by decide

/-- V55, V56, V58, V62, V63. -/
theorem test_fn8000_0006 :
    fn8000_0006 Config.illustration zeros = ⟨0x00000000, 0x42004200, 0x04008140, 0x00000000⟩ ∧
      fn8000_0006 Config.illustration ones = ⟨0x00000000, 0x42004200, 0x04008140, 0xFFFFFFFF⟩ := by decide

/-- V57, V59, V61; V55 with V57 is a unified L2 TLB. -/
theorem test_fn8000_0006_unified :
    let cfg : Cfg := { Config.illustration with l2DTlb4KAssoc := 0x0, l2DTlb4KSize := 0x000, l2Size := 0x0200, l2Assoc := 0x6 }
    (fn8000_0006 cfg ones).ebx = 0x00004200 ∧ (fn8000_0006 cfg ones).ecx = 0x02006140 ∧
      l2TlbUnified (fn8000_0006 cfg ones) = true ∧ l2TlbUnified (fn8000_0006 Config.illustration ones) = false ∧
      (fn8000_0006
        { cfg with
          l2DTlb2and4MAssoc := 0x2
          l2DTlb2and4MSize := 0x008
          l2ITlb2and4MAssoc := 0x2
          l2ITlb2and4MSize := 0x008 } ones).eax = 0x20082008 := by decide

/-- S10 and section 2.9. -/
theorem test_ways8 :
    [0x01#8, 0x02#8, 0x04#8, 0xFE#8, 0xFF#8, 0x00#8].map ways8 =
      [.ways 1, .ways 2, .ways 4, .ways 254, .fullyAssociative, .reserved] := by decide

/-- S16 and section 2.10. -/
theorem test_ways4 :
    [0x0#4, 0x1#4, 0x2#4, 0x4#4, 0x6#4, 0x8#4, 0xF#4, 0x3#4].map ways4 =
      [.disabled, .ways 1, .ways 2, .ways 4, .ways 8, .ways 16, .fullyAssociative, .reserved] := by decide

/-! ## Fn8000_0007, Fn8000_0008 and Fn8000_000A (V64 to V82) -/

/-- V64, V65, V67, V68. -/
theorem test_fn8000_0007 :
    apm Config.illustration 0 = 0x0000000F ∧
      apm { Config.illustration with tm := true, stc := true, tscInvariant := true } 0 = 0x0000013F ∧
      apm { Config.illustration with tm := true, stc := true, tscInvariant := true } allBits = 0xFFFFFFFF ∧
      apm bare allBits = 0xFFFFFEC0 ∧ fn8000_0007 bare ones = ⟨allBits, allBits, allBits, 0xFFFFFEC0⟩ := by decide

/-- Section 2.11: each bit alone. -/
theorem test_fn8000_0007_positions :
    [{ bare with ts := true }, { bare with fid := true }, { bare with vid := true }, { bare with ttp := true },
      { bare with tm := true }, { bare with stc := true }, { bare with tscInvariant := true }].map (fun c => apm c 0) =
    [0x0001#32, 0x0002#32, 0x0004#32, 0x0008#32, 0x0010#32, 0x0020#32, 0x0100#32] := by decide

/-- V69, V70, V74, V79. -/
theorem test_fn8000_0008 :
    fn8000_0008 Config.illustration zeros = ⟨0x00003028, 0, 0x00000001, 0⟩ ∧
      fn8000_0008 { Config.illustration with apicIdCoreIdSize := 0x1 } ones = ⟨0xFFFF3028, allBits, 0xFFFF1F01, allBits⟩ := by
  decide

/-- V73 to V78. -/
theorem test_core_counts :
    coreCount { bare with apicIdCoreIdSize := 0xF, nc := 0xFE } 0 = 0x0000F0FE ∧
      [0x00000000#32, 0x00000001#32, 0x00001001#32, 0x00002003#32, 0x00002002#32, 0x0000F0FE#32].map maximumCores =
        [1, 2, 2, 4, 4, 32768] ∧
      coresPerProcessor 0x0000F0FE = 255 ∧ coresPerProcessor 0x00002002 = 3 := by decide

/-- R149: the low ApicIdCoreIdSize bits of LocalApicId are the core number. -/
theorem test_core_number : coreNumber 0x07020800 0x00002003 = some 3 ∧ coreNumber 0x07020800 0x00000001 = none := by decide

/-- V80, V81, V82. -/
theorem test_fn8000_000A :
    fn8000_000A wide zeros = ⟨0x00000001, 0x00000040, 0, 0⟩ ∧
      fn8000_000A wide ones = ⟨0xFFFFFF01, 0x00000040, allBits, allBits⟩ ∧
      fn8000_000A { wide with svm := false } ones = ones := by decide

/-! ## The reserved functions (V14, V16) -/

/-- In range, each reserved row returns the draws. -/
theorem test_reserved_rows_draw :
    regsOf (exec .cpuidFn8000_0009 (demo 0)) = some (demo 0).draws ∧
      regsOf (exec .cpuidFn8000_000B (demo 0)) = some (demo 0).draws ∧
      regsOf (exec .cpuidFn8000_0010 (demo 0)) = some (demo 0).draws ∧
      regsOf (exec .cpuidFn8000_0019 (demo 0)) = some (demo 0).draws := ⟨rfl, rfl, rfl, rfl⟩

/-- Out of range, a described row returns the draws too (V7, V8; program P4's variant). -/
theorem test_out_of_range_rows_draw :
    let s := core { wide with maxExtFn := 0x80000007 } 0 []
    regsOf (exec .cpuidFn8000_0008 s) = some s.draws ∧ regsOf (exec .cpuidFn8000_000A s) = some s.draws := ⟨rfl, rfl⟩

/-! ## Cores and threads (V83 to V86, S13) -/

theorem test_table3 :
    table3 1 1 = ⟨false, false, none, 0⟩ ∧ table3 2 1 = ⟨true, true, some 2, 1⟩ ∧ table3 255 1 = ⟨true, true, some 255, 254⟩ ∧
      table3 1 2 = ⟨false, true, some 2, 0⟩ ∧ table3 2 2 = ⟨false, true, some 4, 1⟩ := by decide

/-- Programs P4 and P5 as software reads them. -/
theorem test_software_counts :
    let r1 := resultOf wide ones 0x00000001
    let x1 := resultOf wide ones 0x80000001
    let x8 := resultOf wide ones 0x80000008
    threadsPerProcessor r1 = 2 ∧ threadsPerCore r1 x8.ecx = 1 ∧ coresPerProcessor x8.ecx = 2 ∧
      coresDeprecated r1 x1.ecx = some 2 ∧ takenFeature 0x00000001 0x80000019 0x80000001 x1.ecx 2 = true := by decide

/-- V83: with HTT = 0 the thread count is not read from EBX. -/
theorem test_software_counts_single_core :
    let cfg : Cfg := { Config.illustration with htt := false, cmpLegacy := false, nc := 0x00 }
    cfg.wellFormed = true ∧ threadsPerProcessor (resultOf cfg ones 0x00000001) = 1 ∧
      coresDeprecated (resultOf cfg ones 0x00000001) (resultOf cfg ones 0x80000001).ecx = some 1 := by decide

/-- Section 2 of the vectors: the masks of the defined bits. -/
theorem test_defined_masks :
    definedMask wide 0x00000001 = ⟨allBits, allBits, 0x80002001, 0x178BFBFF⟩ ∧
      (definedMask { wide with htt := false } 0x00000001).ebx = 0xFF00FFFF ∧
      definedMask wide 0x80000001 = ⟨allBits, 0x0000FFFF, 0x00000017, 0xEBD3FBFF⟩ ∧
      definedMask wide 0x80000007 = ⟨0, 0, 0, 0x0000013F⟩ ∧
      definedMask wide 0x80000008 = ⟨0x0000FFFF, 0, 0x0000F0FF, 0⟩ := by decide

/-! ## Host actions -/

theorem test_set_name_string :
    ((demo 0).setNameString (name40.set 0 0x42)).map (fun s => s.nameString[0]) = some 0x42 ∧
      (demo 0).setNameString (name40.set 0 0x80) = none ∧
      { demo 0 with stepCount := 1 }.setNameString name40 = none := ⟨rfl, rfl, rfl⟩

theorem test_host_load_eax : ((demo 0).hostLoadEax 0x80000008).eax = 0x80000008 := rfl


/-! ## Witnesses: a concrete state and operands that meet all the hypotheses of each statement.
Where a witness names a configuration only, the state is `core` of it. -/

theorem test_core_has_its_configuration (cfg : Cfg) (fn : Word) : (core cfg fn []).cfg = cfg ∧ (core cfg fn []).eax = fn := ⟨rfl, rfl⟩

/-- A function row with its number, and the row CPUID with the first numbers that no row has. -/
theorem witness_DecodeInvertsEncode :
    Instr.cpuidFn8000_0019.wellFormedFor 0x80000019 = true ∧ Instr.cpuid.wellFormedFor 0x8000001A = true ∧
      Instr.cpuid.wellFormedFor 0x00000002 = true := by decide

theorem witness_OnlyEncodingsDecode :
    decode [0x0F#8, 0xA2#8, 0x90#8] 0x80000008 = .ok (.cpuidFn8000_0008, [0x90#8]) ∧
      decode [0x0F#8, 0xA2#8] 0x40000000 = .ok (.cpuid, []) := by decide

theorem witness_PrefixedCpuidIsRefused :
    [0x66#8, 0x4F#8] ≠ [] ∧ (∀ b ∈ [0x66#8, 0x4F#8], isPrefixByte b = true) ∧
      (core wide 0 [0x66#8, 0x4F#8, 0x0F#8, 0xA2#8]).fetchBytes = [0x66#8, 0x4F#8] ++ 0x0F#8 :: 0xA2#8 :: [] := by decide

/-- Next to each boundary: the first byte of CPUID with another second byte, and the byte before the REX bytes. -/
theorem witness_OtherBytesAreRefused :
    ((core wide 0 [0x0F#8, 0xA3#8]).fetchBytes = 0x0F#8 :: 0xA3#8 :: [] ∧ isPrefixByte 0x0F#8 = false ∧
        ¬(0x0F#8 = 0x0F#8 ∧ 0xA3#8 = 0xA2#8)) ∧
      ((core wide 0 [0x3F#8, 0xA2#8]).fetchBytes = 0x3F#8 :: 0xA2#8 :: [] ∧ isPrefixByte 0x3F#8 = false ∧
        ¬(0x3F#8 = 0x0F#8 ∧ 0xA2#8 = 0xA2#8)) := by decide

/-- At the highest address of a 32-bit program counter as well, where the second byte lies at address 0. -/
theorem witness_PlacedRowRunsNext :
    State.reset.pcWidth.wrap State.reset.pc = State.reset.pc ∧ PcWidth.w32.wrap 0xFFFFFFFF = 0xFFFFFFFF := by decide

theorem witness_StepRunsDecodedInstruction :
    decode (demo 0x80000006).fetchBytes (demo 0x80000006).eax = .ok (.cpuidFn8000_0006, []) ∧
      decode (demo 0x8000001A).fetchBytes (demo 0x8000001A).eax = .ok (.cpuid, []) := by decide

theorem witness_CpuidBytesExecute :
    (demo 0).cfg.wellFormed = true ∧ Memory.read (demo 0).mem (demo 0).pc.toNat = some 0x0F#8 ∧
      Memory.read (demo 0).mem ((demo 0).addressAfter (demo 0).pc 1).toNat = some 0xA2#8 := by decide

/-- One state for each clause. -/
theorem witness_FetchFaultsWhereNothingIsListed :
    (let s := State.reset; s.pcWidth.wrap s.pc = s.pc ∧ Memory.read s.mem s.pc.toNat = none) ∧
      (let s := core wide 0 [0x0F#8]; s.pcWidth.wrap s.pc = s.pc ∧ Memory.read s.mem s.pc.toNat = some 0x0F#8 ∧
        Memory.read s.mem (s.addressAfter s.pc 1).toNat = none) := by decide

theorem witness_StepKeepsInvariant : (demo 0x80000008).Inv ∧ ∃ t, step (demo 0x80000008) = .next t :=
  ⟨⟨by decide, by decide, by decide⟩, _, rfl⟩

theorem witness_StepFrame : ∃ t, step (demo 0x80000005) = .next t := ⟨_, rfl⟩

theorem witness_FunctionRowIsCpuidPreloaded :
    (demo 0).cfg.wellFormed = true ∧ Instr.cpuidFn0000_0000.functionNumber = some 0x00000000 ∧
      Instr.cpuidFn8000_0019.functionNumber = some 0x80000019 := by decide

/-- The ends of the two gaps. -/
theorem witness_RangesAreDisjoint :
    wide.wellFormed = true ∧ isUndefined wide 0x00000001 = false ∧ isUndefined wide 0x00000002 = true ∧
      isUndefined wide 0x7FFFFFFF = true ∧ isUndefined wide 0x80000000 = false ∧ isUndefined wide 0x80000019 = false ∧
      isUndefined wide 0x8000001A = true ∧ isUndefined wide 0xFFFFFFFF = true := by decide

/-- A function row above MaxExtFn, and the row CPUID with numbers at the ends of the gap. -/
theorem witness_UnavailableFunctionsDraw :
    isUndefined (core Config.illustration 0 []).cfg (Instr.cpuidFn8000_0009.functionNumber.getD 0) = true ∧
      isUndefined (demo 0x00000002).cfg (Instr.cpuid.functionNumber.getD (demo 0x00000002).eax) = true ∧
      isUndefined (demo 0x7FFFFFFF).cfg (Instr.cpuid.functionNumber.getD (demo 0x7FFFFFFF).eax) = true := by decide

/-- Both ends of both disjuncts. -/
theorem witness_UndescribedFunctionsDraw :
    let cfg : Cfg := { wide with maxStdFn := 0x00000005, maxExtFn := 0x8000001B }
    let first := core cfg 0x00000002 []
    let last := core cfg 0x00000005 []
    let firstExt := core cfg 0x8000001A []
    let lastExt := core cfg 0x8000001B []
    (0x00000002#32 ≤ first.eax ∧ first.eax ≤ first.cfg.maxStdFn) ∧ (0x00000002#32 ≤ last.eax ∧ last.eax ≤ last.cfg.maxStdFn) ∧
      (0x8000001A#32 ≤ firstExt.eax ∧ firstExt.eax ≤ firstExt.cfg.maxExtFn) ∧
      (0x8000001A#32 ≤ lastExt.eax ∧ lastExt.eax ≤ lastExt.cfg.maxExtFn) := by decide

/-- Two states that differ in the other registers and in the number of executions. -/
theorem witness_ResultDependsOnlyOnSelector :
    let u : State := { demo 0x80000008 with ebx := 1, ecx := 2, edx := 3, drawCount := 4 }
    u.eax = (demo 0x80000008).eax ∧ u.cfg = (demo 0x80000008).cfg ∧ u.nameString = (demo 0x80000008).nameString ∧
      u.apicEnabled = (demo 0x80000008).apicEnabled ∧ u ≠ demo 0x80000008 := by decide

theorem witness_SecondCpuidRunsTheLimit :
    (demo 0).cfg.wellFormed = true ∧ (demo 0x00000000).eax = 0x00000000 ∧ (demo 0x80000000).eax = 0x80000000 := by decide

theorem witness_StandardVendor : (demo 0).cfg.wellFormed = true := by decide

theorem witness_ExtendedVendor : { demo 0 with cfg := { wide with maxExtFn := 0x80000000 } }.cfg.wellFormed = true := by decide

theorem witness_SignatureFields : { demo 0 with cfg := { wide with extFamily := 0xF0 } }.cfg.wellFormed = true := by decide

theorem witness_SignatureIsTheSame :
    { demo 0 with cfg := { wide with maxExtFn := 0x80000001 } }.cfg.wellFormed = true ∧
      isExtended { wide with maxExtFn := 0x80000001 } 0x80000001 = true := by decide

/-- HTT = 1 and HTT = 0. -/
theorem witness_MiscellaneousFields :
    (wide.wellFormed = true ∧ wide.htt = true) ∧
      (let cfg : Cfg := { wide with htt := false, cmpLegacy := false, nc := 0x00 }
       cfg.wellFormed = true ∧ cfg.htt = false) := by decide

theorem witness_StandardFeaturesEcx : (demo 0).cfg.wellFormed = true ∧ (demo 0).cfg.sse3 = true := by decide

/-- With the APIC enabled and disabled. -/
theorem witness_StandardFeaturesEdx :
    (demo 0).cfg.wellFormed = true ∧ (demo 0).apicEnabled = true ∧ { demo 0 with apicEnabled := false }.cfg.wellFormed = true := by
  decide

theorem witness_BrandIdentifier :
    isExtended (demo 0).cfg 0x80000001 = true ∧ isExtended { wide with maxExtFn := 0x80000001 } 0x80000001 = true := by decide

theorem witness_ExtendedFeaturesEcx :
    isExtended (demo 0).cfg 0x80000001 = true ∧ isExtended { wide with maxExtFn := 0x80000001 } 0x80000001 = true := by decide

theorem witness_ExtendedFeaturesEdx :
    isExtended (demo 0).cfg 0x80000001 = true ∧ isExtended { wide with maxExtFn := 0x80000001 } 0x80000001 = true := by decide

theorem witness_CopiedFeatureBits : (demo 0).cfg.wellFormed = true ∧ isExtended (demo 0).cfg 0x80000001 = true := by decide

/-- One state for all three clauses, and each clause at the limit of its range. -/
theorem witness_NameStringCharacters :
    isExtended (demo 0).cfg 0x80000004 = true ∧ isExtended { wide with maxExtFn := 0x80000002 } 0x80000002 = true ∧
      isExtended { wide with maxExtFn := 0x80000003 } 0x80000003 = true ∧
      isExtended { wide with maxExtFn := 0x80000004 } 0x80000004 = true := by decide

theorem witness_L1CacheAndTlbFields :
    isExtended (demo 0).cfg 0x80000005 = true ∧ isExtended { wide with maxExtFn := 0x80000005 } 0x80000005 = true := by decide

theorem witness_L2CacheAndTlbFields :
    isExtended (demo 0).cfg 0x80000006 = true ∧ isExtended { wide with maxExtFn := 0x80000006 } 0x80000006 = true := by decide

/-- A configuration with a unified L2 TLB (V55 with V57). -/
theorem witness_UnifiedTlbReading :
    let cfg : Cfg := { wide with l2DTlb4KAssoc := 0x0, l2DTlb4KSize := 0x000 }
    isExtended cfg 0x80000006 = true ∧ cfg.l2DTlb2and4MAssoc = 0x0 ∧ cfg.l2DTlb2and4MSize = 0x000 := by decide

theorem witness_AssociativityCodesAreDefined :
    (demo 0).cfg.wellFormed = true ∧ isExtended (demo 0).cfg 0x80000005 = true ∧ isExtended (demo 0).cfg 0x80000006 = true := by
  decide

theorem witness_PowerManagementBits :
    isExtended (demo 0).cfg 0x80000007 = true ∧ isExtended { wide with maxExtFn := 0x80000007 } 0x80000007 = true := by decide

theorem witness_AddressSizesAndCoreCount :
    isExtended (demo 0).cfg 0x80000008 = true ∧ isExtended Config.illustration 0x80000008 = true := by decide

/-- ApicIdCoreIdSize = 0, and its two other extremes. -/
theorem witness_MaximumNumberOfCores :
    (isExtended wide 0x80000008 = true ∧ wide.apicIdCoreIdSize = 0x0) ∧
      (∀ n ∈ [0x1#4, 0xF#4], isExtended { wide with apicIdCoreIdSize := n } 0x80000008 = true ∧ n ≠ 0x0#4) := by decide

/-- SVM = 1 and SVM = 0, at the limit of the range. -/
theorem witness_SvmFunction :
    let cfg : Cfg := { wide with maxExtFn := 0x8000000A }
    (isExtended cfg 0x8000000A = true ∧ cfg.svm = true) ∧
      (isExtended { cfg with svm := false } 0x8000000A = true ∧ { cfg with svm := false }.svm = false) := by decide

theorem witness_FamilyIsInScope :
    wide.wellFormed = true ∧ { wide with extFamily := 0xF0 }.wellFormed = true := by decide

/-- One core and 255 cores. -/
theorem witness_CoreFieldsAreTable3 :
    ({ wide with htt := false, cmpLegacy := false, nc := 0x00 } : Cfg).holdsRow (table3 1 1) = true ∧
      ({ wide with nc := 0xFE, logicalProcessorCount := 0xFF } : Cfg).holdsRow (table3 255 1) = true := by decide

/-- One core, two cores and 255 cores. -/
theorem witness_SoftwareCountsCores :
    (wide.wellFormed = true ∧ wide.holdsRow (table3 2 1) = true ∧ 1 ≤ 2 ∧ isExtended wide 0x80000008 = true) ∧
      (let cfg : Cfg := { wide with htt := false, cmpLegacy := false, nc := 0x00 }
       cfg.wellFormed = true ∧ cfg.holdsRow (table3 1 1) = true ∧ 1 ≤ 1 ∧ isExtended cfg 0x80000008 = true) ∧
      (let cfg : Cfg := { wide with nc := 0xFE, logicalProcessorCount := 0xFF }
       cfg.wellFormed = true ∧ cfg.holdsRow (table3 255 1) = true ∧ 1 ≤ 255 ∧ isExtended cfg 0x80000008 = true) := by decide

theorem witness_SupportCheckIsExact : (demo 0).cfg.wellFormed = true := by decide

/-- Both sides of the equivalence occur: a supported function, and Fn8000_000A with SVM and without. -/
theorem witness_TrustProcedure :
    wide.wellFormed = true ∧ isUndefined wide 0x8000000A = false ∧ wide.svm = true ∧
      { wide with svm := false }.wellFormed = true ∧ isUndefined wide 0x8000001A = true := by decide

theorem witness_ProgrammedNameReadsBack :
    (∃ u, (demo 0).setNameString name40 = some u) ∧ isExtended (demo 0).cfg 0x80000004 = true := ⟨⟨_, rfl⟩, by decide⟩

theorem witness_CoreStepsCommute : (0 : Nat) ≠ 1 ∧ ∃ after, stepCore [demo 0, demo 1] 1 = some after := ⟨by decide, _, rfl⟩

theorem witness_OtherCoresUnchanged : ∃ after, stepCore [demo 0, demo 1] 0 = some after := ⟨_, rfl⟩

theorem witness_SameCountsOnEveryCore :
    let s := demo 0
    let u := core { wide with localApicId := 0x00 } 0 []
    processorWellFormed ([s, u].map (fun c => c.cfg)) = true ∧ s ∈ [s, u] ∧ u ∈ [s, u] ∧ isExtended s.cfg 0x80000008 = true ∧
      isExtended u.cfg 0x80000008 = true := by decide

/-- Two cores with ApicIdCoreIdSize = 0, and three cores with room for four. -/
theorem witness_CoresFitTheMaximum :
    ((demo 0).cfg.wellFormed = true ∧ isExtended (demo 0).cfg 0x80000008 = true) ∧
      (let cfg : Cfg := { wide with nc := 0x02, logicalProcessorCount := 0x03, apicIdCoreIdSize := 0x2 }
       cfg.wellFormed = true ∧ isExtended cfg 0x80000008 = true) := by decide

theorem witness_LocalApicIdsTellCoresApart :
    let s := demo 0
    let u := core { wide with localApicId := 0x00 } 0 []
    processorWellFormed ([s, u].map (fun c => c.cfg)) = true ∧ 0 ≠ 1 ∧ [s, u][0]? = some s ∧ [s, u][1]? = some u :=
  ⟨by decide, by decide, rfl, rfl⟩

end Sys2Proof.Tests
end

section
/-! PROOFS. A function row is the instruction CPUID with its number in EAX (40_cpuid_instruction.md R51). The words of a
function number are separated from the range tests; each row then runs these words under the one test of its own range,
and so does the whole dispatch. -/

namespace Sys2Proof.Machine

/-! ## The dispatch without its range tests -/

/-- The words of each standard number, whatever the limit (40_cpuid_instruction.md R52). -/
def standardFunction (cfg : Cfg) (apicEnabled : Bool) (d : Quad) (fn : Word) : Quad :=
  if fn = 0x00000000#32 then fn0000_0000 cfg
  else if fn = 0x00000001#32 then fn0000_0001 cfg apicEnabled d
  else unspecified d

/-- The words of each extended number, whatever the limit (40_cpuid_instruction.md R52). -/
def extendedFunction (cfg : Cfg) (name : NameString) (apicEnabled : Bool) (d : Quad) (fn : Word) : Quad :=
  if fn = 0x80000000#32 then fn8000_0000 cfg
  else if fn = 0x80000001#32 then fn8000_0001 cfg apicEnabled d
  else if fn = 0x80000002#32 then nameWords name 0
  else if fn = 0x80000003#32 then nameWords name 16
  else if fn = 0x80000004#32 then nameWords name 32
  else if fn = 0x80000005#32 then fn8000_0005 cfg
  else if fn = 0x80000006#32 then fn8000_0006 cfg d
  else if fn = 0x80000007#32 then fn8000_0007 cfg d
  else if fn = 0x80000008#32 then fn8000_0008 cfg d
  else if fn = 0x80000009#32 then unspecified d
  else if fn = 0x8000000A#32 then fn8000_000A cfg d
  else unspecified d

/-- The whole dispatch in terms of the two: the standard range is tested first. -/
theorem cpuidResult_eq (cfg : Cfg) (name : NameString) (apicEnabled : Bool) (d : Quad) (fn : Word) :
    cpuidResult cfg name apicEnabled d fn =
      if isStandard cfg fn then standardFunction cfg apicEnabled d fn
      else extendedWords cfg d fn (extendedFunction cfg name apicEnabled d fn) := rfl

/-! ## The ranges of function numbers -/

/-- No number below 8000_0000h is extended, whatever the limit. -/
theorem isExtended_of_lt {fn : Word} (cfg : Cfg) (h : fn < 0x80000000#32) : isExtended cfg fn = false := by
  simp [isExtended, BitVec.not_le.2 h]

/-- No number from 8000_0000h on is standard: MaxStdFn lies below it (10_state.md R22 item 1). -/
theorem isStandard_of_ge {cfg : Cfg} {fn : Word} (hr : cfg.rangesValid = true) (h : 0x80000000#32 ≤ fn) :
    isStandard cfg fn = false := by
  simp only [Cfg.rangesValid, Bool.and_eq_true, decide_eq_true_eq] at hr
  obtain ⟨⟨-, hmax⟩, -⟩ := hr
  have hlt : cfg.maxStdFn < fn := by bv_omega
  simpa [isStandard] using hlt

/-- Below 8000_0000h the dispatch is the standard functions under their range test. -/
theorem cpuidResult_of_lt {fn : Word} (cfg : Cfg) (name : NameString) (apicEnabled : Bool) (d : Quad)
    (h : fn < 0x80000000#32) :
    cpuidResult cfg name apicEnabled d fn = standardWords cfg d fn (standardFunction cfg apicEnabled d fn) := by
  simp [cpuidResult_eq, standardWords, extendedWords, isExtended_of_lt cfg h]

/-- From 8000_0000h on the dispatch is the extended functions under their range test. -/
theorem cpuidResult_of_ge {cfg : Cfg} {fn : Word} (name : NameString) (apicEnabled : Bool) (d : Quad)
    (hr : cfg.rangesValid = true) (h : 0x80000000#32 ≤ fn) :
    cpuidResult cfg name apicEnabled d fn = extendedWords cfg d fn (extendedFunction cfg name apicEnabled d fn) := by
  simp [cpuidResult_eq, isStandard_of_ge hr h]

/-! ## The two sides of the refinement -/

/-- CPUID with EAX preloaded: it overwrites EAX, so the preloaded number acts as the selector only. -/
theorem exec_cpuid_writeReg_eax (s : State) (fn : Word) :
    exec .cpuid (s.writeReg .eax fn) = .next (s.completeCpuid (s.cpuidWords fn)) := rfl

/-- What a function row can do: run the words of its number as a standard function, or as an extended one. -/
theorem exec_functionRow {i : Instr} {fn : Word} (s : State) (h : i.functionNumber = some fn) :
    (fn < 0x80000000#32 ∧
        exec i s = s.runStandard fn (standardFunction s.cfg s.apicEnabled s.draws fn)) ∨
      (0x80000000#32 ≤ fn ∧
        exec i s = s.runExtended fn (extendedFunction s.cfg s.nameString s.apicEnabled s.draws fn)) := by
  cases i with
  | cpuid => cases h
  | cpuidFn0000_0000 | cpuidFn0000_0001 => cases h; exact .inl ⟨by decide, rfl⟩
  | _ => cases h; exact .inr ⟨by decide, rfl⟩

/-- Settles O17: on either side of 8000_0000h the row and the dispatch run the same words under the same range test. -/
theorem functionRowIsCpuidPreloaded : Obligations.FunctionRowIsCpuidPreloaded := by
  intro i fn s hwf hrow
  obtain ⟨hranges, -⟩ := (Cfg.wellFormed_iff s.cfg).1 hwf
  rw [exec_cpuid_writeReg_eax, State.cpuidWords]
  obtain ⟨hlt, hexec⟩ | ⟨hge, hexec⟩ := exec_functionRow s hrow
  · rw [hexec, State.runStandard, cpuidResult_of_lt _ _ _ _ hlt]
  · rw [hexec, State.runExtended, cpuidResult_of_ge _ _ _ hranges hge]

end Sys2Proof.Machine
end

section
/-! PROOFS. The words of Fn0000_0001 field by field (41_standard_functions.md R71, R78). The function lies in the standard
range of every well-formed configuration, so its row always returns these words. A field of a word is found from the
right: it lies in the lowest part of the concatenation, or in the rest at a position that is smaller by that part's width.
Each layout is proved in two passes, the first locating the part and the second computing the position in it: the rules
for a concatenation no longer match once its width is computed. -/

namespace Sys2Proof.Machine

/-! ## Fn0000_0001 runs -/

/-- Fn0000_0001 is a standard function of every processor in scope (10_state.md R22 item 1). -/
theorem isStandard_one {cfg : Cfg} (h : cfg.rangesValid = true) : isStandard cfg 0x00000001#32 = true := by
  simp only [Cfg.rangesValid, Bool.and_eq_true, decide_eq_true_eq] at h
  obtain ⟨⟨hmin, -⟩, -⟩ := h
  simpa [isStandard] using hmin

/-- What a standard function in range returns: its own words. -/
theorem State.runStandard_of_isStandard {s : State} {fn : Word} (words : Quad) (h : isStandard s.cfg fn = true) :
    s.runStandard fn words = .next (s.completeCpuid words) := by
  simp [State.runStandard, standardWords, h]

/-- The row Fn0000_0001 returns its words, never `Unspecified()` (41_standard_functions.md R67). -/
theorem exec_cpuidFn0000_0001 {s : State} (h : s.cfg.wellFormed = true) :
    exec .cpuidFn0000_0001 s = .next (s.completeCpuid (fn0000_0001 s.cfg s.apicEnabled s.draws)) := by
  obtain ⟨hranges, -⟩ := (Cfg.wellFormed_iff s.cfg).1 h
  exact State.runStandard_of_isStandard _ (isStandard_one hranges)

@[simp] theorem fn0000_0001_edx (cfg : Cfg) (apicEnabled : Bool) (d : Quad) :
    (fn0000_0001 cfg apicEnabled d).edx = feat1D cfg apicEnabled d.edx := rfl

/-! ## The fields of the words -/

/-- A bit of a concatenation below the width of its lower part lies in that part. -/
theorem getLsbD_append_of_lt {m n i : Nat} {x : BitVec m} {y : BitVec n} (h : i < n) :
    (x ++ y).getLsbD i = y.getLsbD i := by
  rw [BitVec.getLsbD_append, if_pos h]

/-- A bit of a concatenation above its lower part lies in the upper part. -/
theorem getLsbD_append_of_le {m n i : Nat} {x : BitVec m} {y : BitVec n} (h : n ≤ i) :
    (x ++ y).getLsbD i = x.getLsbD (i - n) := by
  rw [BitVec.getLsbD_append, if_neg (by omega)]

/-- A feature field is its Boolean (00_scope.md R4). -/
@[simp] theorem featureBit_getElem_zero (b : Bool) : (featureBit b)[0] = b := by
  simp [featureBit]

/-- `Misc1(cfg)` field by field (41_standard_functions.md R71). -/
theorem misc1_fields (cfg : Cfg) (d : Word) :
    field (misc1 cfg d) 31 24 = cfg.localApicId ∧
      field (misc1 cfg d) 23 16 = (if cfg.htt = true then cfg.logicalProcessorCount else field d 23 16) ∧
      field (misc1 cfg d) 15 8 = cfg.clFlush ∧ field (misc1 cfg d) 7 0 = cfg.brandId8 := by
  simp (disch := decide) only [field, misc1, BitVec.extractLsb, BitVec.extractLsb'_append_eq_of_le,
    BitVec.extractLsb'_append_eq_of_add_le]
  simp

/-- The reserved fields of `Feat1D(cfg, st)` are the draw's, mask E874_0400h (41_standard_functions.md R78). -/
theorem feat1D_reserved (cfg : Cfg) (apicEnabled : Bool) (d : Word) :
    let v := feat1D cfg apicEnabled d
    field v 31 29 = field d 31 29 ∧ bit v 27 = bit d 27 ∧ field v 22 20 = field d 22 20 ∧ bit v 18 = bit d 18 ∧
      bit v 10 = bit d 10 := by
  simp (disch := decide) only [field, bit, feat1D, BitVec.extractLsb, BitVec.extractLsb'_append_eq_of_le,
    BitVec.extractLsb'_append_eq_of_add_le, getLsbD_append_of_lt, getLsbD_append_of_le]
  simp

/-- The 23 feature bits of `Feat1D(cfg, st)`, mask 178B_FBFFh (41_standard_functions.md R78). -/
theorem feat1D_features (cfg : Cfg) (apicEnabled : Bool) (d : Word) :
    let v := feat1D cfg apicEnabled d
    bit v 28 = cfg.htt ∧ bit v 26 = cfg.sse2 ∧ bit v 25 = cfg.sse ∧ bit v 24 = cfg.fxsr ∧ bit v 23 = cfg.mmx ∧
      bit v 19 = cfg.clfsh ∧ bit v 17 = cfg.pse36 ∧ bit v 16 = cfg.pat ∧ bit v 15 = cfg.cmov ∧ bit v 14 = cfg.mca ∧
      bit v 13 = cfg.pge ∧ bit v 12 = cfg.mtrr ∧ bit v 11 = cfg.sysEnterSysExit ∧ bit v 9 = apicBit cfg apicEnabled ∧
      bit v 8 = cfg.cmpxchg8b ∧ bit v 7 = cfg.mce ∧ bit v 6 = cfg.pae ∧ bit v 5 = cfg.msr ∧ bit v 4 = cfg.tsc ∧
      bit v 3 = cfg.pse ∧ bit v 2 = cfg.de ∧ bit v 1 = cfg.vme ∧ bit v 0 = cfg.fpu := by
  simp (disch := decide) only [bit, feat1D, getLsbD_append_of_lt, getLsbD_append_of_le]
  simp

/-! ## The statements -/

/-- Settles O29: the row returns `Misc1(cfg)` in EBX. -/
theorem miscellaneousFields : Obligations.MiscellaneousFields := by
  intro s hwf
  exact ⟨_, exec_cpuidFn0000_0001 hwf, misc1_fields s.cfg s.draws.ebx⟩

/-- Settles O31: the row returns `Feat1D(cfg, st)` in EDX, whose bits are the features and the reserved fields. -/
theorem standardFeaturesEdx : Obligations.StandardFeaturesEdx := by
  intro s hwf
  refine ⟨_, exec_cpuidFn0000_0001 hwf, ?_⟩
  simp [feat1D_features, feat1D_reserved, apicBit]

end Sys2Proof.Machine
end

section
/-! PROOFS. The words of Fn8000_0001 field by field, what it shares with Fn0000_0001, and the name string of Fn8000_0002 to
Fn8000_0004 (42_extended_identity.md R93 to R108). Where an extended function is in range its row returns its words; the
fields of a word are located as for Fn0000_0001. -/

namespace Sys2Proof.Machine

/-! ## Extended functions in range -/

/-- What an extended function in range returns: its own words. -/
theorem State.runExtended_of_isExtended {s : State} {fn : Word} (words : Quad) (h : isExtended s.cfg fn = true) :
    s.runExtended fn words = .next (s.completeCpuid words) := by
  simp [State.runExtended, extendedWords, h]

/-- The row Fn8000_0001 in range returns its words (42_extended_identity.md R93). -/
theorem exec_cpuidFn8000_0001 {s : State} (h : isExtended s.cfg 0x80000001#32 = true) :
    exec .cpuidFn8000_0001 s = .next (s.completeCpuid (fn8000_0001 s.cfg s.apicEnabled s.draws)) :=
  State.runExtended_of_isExtended _ h

/-- The row Fn8000_0002 in range returns characters 0 to 15 (42_extended_identity.md R108). -/
theorem exec_cpuidFn8000_0002 {s : State} (h : isExtended s.cfg 0x80000002#32 = true) :
    exec .cpuidFn8000_0002 s = .next (s.completeCpuid (nameWords s.nameString 0)) :=
  State.runExtended_of_isExtended _ h

/-- The row Fn8000_0003 in range returns characters 16 to 31 (42_extended_identity.md R108). -/
theorem exec_cpuidFn8000_0003 {s : State} (h : isExtended s.cfg 0x80000003#32 = true) :
    exec .cpuidFn8000_0003 s = .next (s.completeCpuid (nameWords s.nameString 16)) :=
  State.runExtended_of_isExtended _ h

/-- The row Fn8000_0004 in range returns characters 32 to 47 (42_extended_identity.md R108). -/
theorem exec_cpuidFn8000_0004 {s : State} (h : isExtended s.cfg 0x80000004#32 = true) :
    exec .cpuidFn8000_0004 s = .next (s.completeCpuid (nameWords s.nameString 32)) :=
  State.runExtended_of_isExtended _ h

@[simp] theorem fn0000_0001_eax (cfg : Cfg) (apicEnabled : Bool) (d : Quad) :
    (fn0000_0001 cfg apicEnabled d).eax = signature cfg := rfl

@[simp] theorem fn8000_0001_eax (cfg : Cfg) (apicEnabled : Bool) (d : Quad) :
    (fn8000_0001 cfg apicEnabled d).eax = signature cfg := rfl

@[simp] theorem fn8000_0001_ecx (cfg : Cfg) (apicEnabled : Bool) (d : Quad) :
    (fn8000_0001 cfg apicEnabled d).ecx = featXC cfg d.ecx := rfl

@[simp] theorem fn8000_0001_edx (cfg : Cfg) (apicEnabled : Bool) (d : Quad) :
    (fn8000_0001 cfg apicEnabled d).edx = featXD cfg apicEnabled d.edx := rfl

/-! ## The feature words -/

/-- `FeatXC(cfg)` field by field: four features, and the draw's bits 31:5 and 3 (42_extended_identity.md R97). -/
theorem featXC_fields (cfg : Cfg) (d : Word) :
    let v := featXC cfg d
    field v 31 5 = field d 31 5 ∧ bit v 4 = cfg.altMovCr8 ∧ bit v 3 = bit d 3 ∧ bit v 2 = cfg.svm ∧
      bit v 1 = cfg.cmpLegacy ∧ bit v 0 = cfg.lahfSahf := by
  simp (disch := decide) only [field, bit, featXC, BitVec.extractLsb, BitVec.extractLsb'_append_eq_of_le,
    getLsbD_append_of_lt, getLsbD_append_of_le]
  simp

/-- The reserved fields of `FeatXD(cfg, st)` are the draw's, mask 142C_0400h (42_extended_identity.md R99). Bit 19 is said
alone as well: Fn0000_0001 has a feature there (R101). -/
theorem featXD_reserved (cfg : Cfg) (apicEnabled : Bool) (d : Word) :
    let v := featXD cfg apicEnabled d
    bit v 28 = bit d 28 ∧ bit v 26 = bit d 26 ∧ bit v 21 = bit d 21 ∧ field v 19 18 = field d 19 18 ∧
      bit v 19 = bit d 19 ∧ bit v 10 = bit d 10 := by
  simp (disch := decide) only [field, bit, featXD, BitVec.extractLsb, BitVec.extractLsb'_append_eq_of_le,
    BitVec.extractLsb'_append_eq_of_add_le, getLsbD_append_of_lt, getLsbD_append_of_le]
  simp

/-- The 26 feature bits of `FeatXD(cfg, st)`, mask EBD3_FBFFh (42_extended_identity.md R99). -/
theorem featXD_features (cfg : Cfg) (apicEnabled : Bool) (d : Word) :
    let v := featXD cfg apicEnabled d
    bit v 31 = cfg.threeDNow ∧ bit v 30 = cfg.threeDNowExt ∧ bit v 29 = cfg.lm ∧ bit v 27 = cfg.rdtscp ∧
      bit v 25 = cfg.ffxsr ∧ bit v 24 = cfg.fxsr ∧ bit v 23 = cfg.mmx ∧ bit v 22 = cfg.mmxExt ∧ bit v 20 = cfg.nx ∧
      bit v 17 = cfg.pse36 ∧ bit v 16 = cfg.pat ∧ bit v 15 = cfg.cmov ∧ bit v 14 = cfg.mca ∧ bit v 13 = cfg.pge ∧
      bit v 12 = cfg.mtrr ∧ bit v 11 = cfg.sysCallSysRet ∧ bit v 9 = apicBit cfg apicEnabled ∧
      bit v 8 = cfg.cmpxchg8b ∧ bit v 7 = cfg.mce ∧ bit v 6 = cfg.pae ∧ bit v 5 = cfg.msr ∧ bit v 4 = cfg.tsc ∧
      bit v 3 = cfg.pse ∧ bit v 2 = cfg.de ∧ bit v 1 = cfg.vme ∧ bit v 0 = cfg.fpu := by
  simp (disch := decide) only [bit, featXD, getLsbD_append_of_lt, getLsbD_append_of_le]
  simp

/-! ## The copied feature bits -/

/-- The positions at which the EDX words of Fn0000_0001 and Fn8000_0001 hold the same feature
(42_extended_identity.md R101). -/
def copiedPositions : List Nat := [0, 1, 2, 3, 4, 5, 6, 7, 8, 9, 12, 13, 14, 15, 16, 17, 23, 24]

/-- The mask 0183_F3FFh of R101 selects the copied positions. -/
theorem bit_copiedMask_iff : ∀ i < 32, bit 0x0183F3FF#32 i = true ↔ i ∈ copiedPositions := by decide

/-- At the copied positions the two words hold the same feature, whatever their draws (42_extended_identity.md R101). -/
theorem bit_featXD_eq_bit_feat1D (cfg : Cfg) (apicEnabled : Bool) (d e : Word) :
    ∀ i ∈ copiedPositions, bit (featXD cfg apicEnabled d) i = bit (feat1D cfg apicEnabled e) i := by
  simp [copiedPositions, featXD_features, feat1D_features]

/-- Words that agree at the bits of a mask are equal under it. -/
theorem and_eq_and_of_bit {v w m : Word} (h : ∀ i < 32, bit m i = true → bit v i = bit w i) : v &&& m = w &&& m := by
  refine BitVec.eq_of_getLsbD_eq fun i hi => ?_
  rw [BitVec.getLsbD_and, BitVec.getLsbD_and]
  cases hm : m.getLsbD i with
  | false => simp
  | true => simpa [bit] using h i hi hm

/-- The two EDX words are equal under the mask of the copied bits (42_extended_identity.md R101). -/
theorem featXD_and_copiedMask (cfg : Cfg) (apicEnabled : Bool) (d e : Word) :
    featXD cfg apicEnabled d &&& 0x0183F3FF#32 = feat1D cfg apicEnabled e &&& 0x0183F3FF#32 :=
  and_eq_and_of_bit fun i hi hm =>
    bit_featXD_eq_bit_feat1D cfg apicEnabled d e i ((bit_copiedMask_iff i hi).1 hm)

/-! ## The name string -/

/-- A word joined from four bytes gives them back, least significant first (20_memory.md R32). -/
theorem wordBytes_append (b3 b2 b1 b0 : Byte) : wordBytes (b3 ++ b2 ++ b1 ++ b0) = [b0, b1, b2, b3] := by
  simp (disch := decide) only [wordBytes, field, BitVec.extractLsb, BitVec.extractLsb'_append_eq_of_le,
    BitVec.extractLsb'_append_eq_of_add_le]
  simp

/-- `Word(S, k)` holds the four characters from `k` on, in order (42_extended_identity.md R108). -/
theorem wordBytes_nameWord (name : NameString) (k : Fin 45) :
    wordBytes (nameWord name k) = (name.toList.drop k).take 4 := by
  have hk : k.val + 3 < name.toList.length := by simp; omega
  rw [nameWord, wordBytes_append, List.drop_eq_getElem_cons (by omega), List.drop_eq_getElem_cons (by omega),
    List.drop_eq_getElem_cons (by omega), List.drop_eq_getElem_cons (by omega)]
  simp

/-- `NameWords(st, o)` spells the sixteen characters from `o` on (42_extended_identity.md R108). -/
theorem nameText_nameWords (name : NameString) (o : Fin 33) :
    nameText (nameWords name o) = (name.toList.drop o).take 16 := by
  have split_sixteen (l : List Byte) :
      l.take 4 ++ (l.drop 4).take 4 ++ (l.drop 8).take 4 ++ (l.drop 12).take 4 = l.take 16 := by
    rw [← List.take_add, ← List.take_add, ← List.take_add]
  simpa [nameText, nameWords, wordBytes_nameWord] using split_sixteen (name.toList.drop o)

/-! ## The statements -/

/-- Settles O28: both rows return `Sig(cfg)` in EAX. -/
theorem signatureIsTheSame : Obligations.SignatureIsTheSame := by
  intro s hwf hext
  refine ⟨_, _, exec_cpuidFn8000_0001 hext, exec_cpuidFn0000_0001 hwf, ?_⟩
  rw [State.completeCpuid_eax, State.completeCpuid_eax, fn8000_0001_eax, fn0000_0001_eax]

/-- Settles O33: the row returns `FeatXC(cfg)` in ECX. -/
theorem extendedFeaturesEcx : Obligations.ExtendedFeaturesEcx := by
  intro s hext
  exact ⟨_, exec_cpuidFn8000_0001 hext, featXC_fields s.cfg s.draws.ecx⟩

/-- Settles O34: the row returns `FeatXD(cfg, st)` in EDX, whose bits are the features and the reserved fields. -/
theorem extendedFeaturesEdx : Obligations.ExtendedFeaturesEdx := by
  intro s hext
  refine ⟨_, exec_cpuidFn8000_0001 hext, ?_⟩
  simp [featXD_features, featXD_reserved, apicBit]

/-- Settles O35: the copied bits hold the same features in both words; the other five are read from each layout. -/
theorem copiedFeatureBits : Obligations.CopiedFeatureBits := by
  intro s hwf hext
  refine ⟨_, _, exec_cpuidFn8000_0001 hext, exec_cpuidFn0000_0001 hwf, featXD_and_copiedMask _ _ _ _, ?_⟩
  simp [featXD_features, featXD_reserved, feat1D_features]

/-- Settles O36: each row in range spells its sixteen characters; after character 32 sixteen are all that are left. -/
theorem nameStringCharacters : Obligations.NameStringCharacters := by
  intro s
  refine ⟨fun h => ⟨_, exec_cpuidFn8000_0002 h, ?_⟩, fun h => ⟨_, exec_cpuidFn8000_0003 h, ?_⟩,
    fun h => ⟨_, exec_cpuidFn8000_0004 h, ?_⟩⟩
  · exact nameText_nameWords s.nameString 0
  · exact nameText_nameWords s.nameString 16
  · have hlen : (s.nameString.toList.drop 32).length ≤ 16 := by simp
    exact (nameText_nameWords s.nameString 32).trans (List.take_of_length_le hlen)

end Sys2Proof.Machine
end

section
/-! PROOFS. The words of Fn8000_0005 and Fn8000_0006 field by field (43_extended_cache_tlb.md R120 to R132). The words have
three shapes: four bytes (all of the L1 words), two pairs of a 4-bit code and a 12-bit size (the L2 TLB words), and the L2
cache word. Each shape gives its parts back. -/

namespace Sys2Proof.Machine

/-! ## The functions in range -/

/-- The row Fn8000_0005 in range returns its words (43_extended_cache_tlb.md R120). -/
theorem exec_cpuidFn8000_0005 {s : State} (h : isExtended s.cfg 0x80000005#32 = true) :
    exec .cpuidFn8000_0005 s = .next (s.completeCpuid (fn8000_0005 s.cfg)) :=
  State.runExtended_of_isExtended _ h

/-- The row Fn8000_0006 in range returns its words (43_extended_cache_tlb.md R126). -/
theorem exec_cpuidFn8000_0006 {s : State} (h : isExtended s.cfg 0x80000006#32 = true) :
    exec .cpuidFn8000_0006 s = .next (s.completeCpuid (fn8000_0006 s.cfg s.draws)) :=
  State.runExtended_of_isExtended _ h

/-! ## The shapes of the words -/

/-- The fields of a word joined from four bytes, as all four L1 words are (43_extended_cache_tlb.md R122 to R125). They are
the word's bytes in memory order. -/
theorem field_append_bytes (b3 b2 b1 b0 : Byte) :
    let v : Word := b3 ++ b2 ++ b1 ++ b0
    field v 31 24 = b3 ∧ field v 23 16 = b2 ∧ field v 15 8 = b1 ∧ field v 7 0 = b0 := by
  have hbytes := wordBytes_append b3 b2 b1 b0
  simp only [wordBytes, List.cons.injEq, and_true] at hbytes
  obtain ⟨h0, h1, h2, h3⟩ := hbytes
  exact ⟨h3, h2, h1, h0⟩

/-- The fields of an L2 TLB word: the associativity and the size of the data TLB, then those of the instruction TLB
(43_extended_cache_tlb.md R129, R130). -/
theorem field_append_l2Tlb (dAssoc : BitVec 4) (dSize : BitVec 12) (iAssoc : BitVec 4) (iSize : BitVec 12) :
    let v : Word := dAssoc ++ dSize ++ iAssoc ++ iSize
    field v 31 28 = dAssoc ∧ field v 27 16 = dSize ∧ field v 15 12 = iAssoc ∧ field v 11 0 = iSize := by
  simp (disch := decide) only [field, BitVec.extractLsb, BitVec.extractLsb'_append_eq_of_le,
    BitVec.extractLsb'_append_eq_of_add_le]
  simp

/-- The fields of the L2 cache word (43_extended_cache_tlb.md R131). -/
theorem field_append_l2Cache (size : BitVec 16) (assoc linesPerTag : BitVec 4) (lineSize : BitVec 8) :
    let v : Word := size ++ assoc ++ linesPerTag ++ lineSize
    field v 31 16 = size ∧ field v 15 12 = assoc ∧ field v 11 8 = linesPerTag ∧ field v 7 0 = lineSize := by
  simp (disch := decide) only [field, BitVec.extractLsb, BitVec.extractLsb'_append_eq_of_le,
    BitVec.extractLsb'_append_eq_of_add_le]
  simp

/-! ## The statements -/

/-- Settles O37: each of the four words is joined from four bytes of the configuration. -/
theorem l1CacheAndTlbFields : Obligations.L1CacheAndTlbFields := by
  intro s hext
  refine ⟨_, exec_cpuidFn8000_0005 hext, ?_⟩
  simp [fn8000_0005, field_append_bytes]

/-- Settles O38: EAX and EBX are L2 TLB words, ECX is the L2 cache word, and EDX is a draw. -/
theorem l2CacheAndTlbFields : Obligations.L2CacheAndTlbFields := by
  intro s hext
  refine ⟨_, exec_cpuidFn8000_0006 hext, ?_⟩
  simp [fn8000_0006, field_append_l2Tlb, field_append_l2Cache]

end Sys2Proof.Machine
end

section
/-! PROOFS. The words of Fn8000_0007, Fn8000_0008 and Fn8000_000A field by field (44_extended_power_addr_svm.md R140 to
R153). Where a function is in range its row returns its words; the registers that hold no defined field are draws. -/

namespace Sys2Proof.Machine

/-! ## The functions in range -/

/-- The row Fn8000_0007 in range returns its words (44_extended_power_addr_svm.md R140). -/
theorem exec_cpuidFn8000_0007 {s : State} (h : isExtended s.cfg 0x80000007#32 = true) :
    exec .cpuidFn8000_0007 s = .next (s.completeCpuid (fn8000_0007 s.cfg s.draws)) :=
  State.runExtended_of_isExtended _ h

/-- The row Fn8000_0008 in range returns its words (44_extended_power_addr_svm.md R145). -/
theorem exec_cpuidFn8000_0008 {s : State} (h : isExtended s.cfg 0x80000008#32 = true) :
    exec .cpuidFn8000_0008 s = .next (s.completeCpuid (fn8000_0008 s.cfg s.draws)) :=
  State.runExtended_of_isExtended _ h

/-- The row Fn8000_000A in range returns its words (44_extended_power_addr_svm.md R151). -/
theorem exec_cpuidFn8000_000A {s : State} (h : isExtended s.cfg 0x8000000A#32 = true) :
    exec .cpuidFn8000_000A s = .next (s.completeCpuid (fn8000_000A s.cfg s.draws)) :=
  State.runExtended_of_isExtended _ h

/-- With SVM, Fn8000_000A defines EAX 7:0 and EBX (44_extended_power_addr_svm.md R151, R152). -/
theorem fn8000_000A_of_svm {cfg : Cfg} (d : Quad) (h : cfg.svm = true) :
    fn8000_000A cfg d = { d with eax := d.eax.extractLsb 31 8 ++ cfg.svmRev, ebx := cfg.nasid } :=
  if_pos h

/-- Without SVM, Fn8000_000A is reserved as a whole (44_extended_power_addr_svm.md R153). -/
theorem fn8000_000A_of_not_svm {cfg : Cfg} (d : Quad) (h : cfg.svm = false) : fn8000_000A cfg d = d :=
  if_neg (by simp [h])

/-! ## The fields of the words -/

/-- `Apm(cfg)` field by field: seven features, and the draw's bits 31:9 and 7:6 (44_extended_power_addr_svm.md R141). -/
theorem apm_fields (cfg : Cfg) (d : Word) :
    let v := apm cfg d
    field v 31 9 = field d 31 9 ∧ bit v 8 = cfg.tscInvariant ∧ field v 7 6 = field d 7 6 ∧ bit v 5 = cfg.stc ∧
      bit v 4 = cfg.tm ∧ bit v 3 = cfg.ttp ∧ bit v 2 = cfg.vid ∧ bit v 1 = cfg.fid ∧ bit v 0 = cfg.ts := by
  simp (disch := decide) only [field, bit, apm, BitVec.extractLsb, BitVec.extractLsb'_append_eq_of_le,
    BitVec.extractLsb'_append_eq_of_add_le, getLsbD_append_of_lt, getLsbD_append_of_le]
  simp

/-- `AddrSize(cfg)` field by field (44_extended_power_addr_svm.md R146). -/
theorem addrSize_fields (cfg : Cfg) (d : Word) :
    let v := addrSize cfg d
    field v 31 16 = field d 31 16 ∧ field v 15 8 = cfg.linAddrSize ∧ field v 7 0 = cfg.physAddrSize := by
  simp (disch := decide) only [field, addrSize, BitVec.extractLsb, BitVec.extractLsb'_append_eq_of_le,
    BitVec.extractLsb'_append_eq_of_add_le]
  simp

/-- `CoreCount(cfg)` field by field (44_extended_power_addr_svm.md R148): its parts are as wide as those of the L2 cache
word. -/
theorem coreCount_fields (cfg : Cfg) (d : Word) :
    let v := coreCount cfg d
    field v 31 16 = field d 31 16 ∧ field v 15 12 = cfg.apicIdCoreIdSize ∧ field v 11 8 = field d 11 8 ∧
      field v 7 0 = cfg.nc :=
  field_append_l2Cache (field d 31 16) cfg.apicIdCoreIdSize (field d 11 8) cfg.nc

/-- The fields of a word that defines its low byte only, as Fn8000_000A_EAX (44_extended_power_addr_svm.md R151). -/
theorem field_append_lowByte (rest : BitVec 24) (low : Byte) :
    let v : Word := rest ++ low
    field v 31 8 = rest ∧ field v 7 0 = low := by
  simp (disch := decide) only [field, BitVec.extractLsb, BitVec.extractLsb'_append_eq_of_le,
    BitVec.extractLsb'_append_eq_of_add_le]
  simp

/-! ## The statements -/

/-- Settles O41: the row returns `Apm(cfg)` in EDX and leaves the other three words to the draws. -/
theorem powerManagementBits : Obligations.PowerManagementBits := by
  intro s hext
  exact ⟨_, exec_cpuidFn8000_0007 hext, rfl, rfl, rfl, apm_fields s.cfg s.draws.edx⟩

/-- Settles O42: the row returns `AddrSize(cfg)` in EAX and `CoreCount(cfg)` in ECX, and draws in EBX and EDX. -/
theorem addressSizesAndCoreCount : Obligations.AddressSizesAndCoreCount := by
  intro s hext
  obtain ⟨heaxReserved, hlin, hphys⟩ := addrSize_fields s.cfg s.draws.eax
  obtain ⟨hecxHigh, hidSize, hecxMid, hnc⟩ := coreCount_fields s.cfg s.draws.ecx
  exact ⟨_, exec_cpuidFn8000_0008 hext, heaxReserved, hlin, hphys, rfl, hecxHigh, hidSize, hecxMid, hnc, rfl⟩

/-- Settles O44: with SVM the row defines EAX 7:0 and EBX; without it all four registers are the draws. -/
theorem svmFunction : Obligations.SvmFunction := by
  intro s hext
  refine ⟨_, exec_cpuidFn8000_000A hext, fun hsvm => ?_, fun hsvm => ?_⟩
  · rw [fn8000_000A_of_svm s.draws hsvm]
    obtain ⟨hreserved, hrev⟩ := field_append_lowByte (field s.draws.eax 31 8) s.cfg.svmRev
    exact ⟨hreserved, hrev, rfl, rfl, rfl⟩
  · rw [State.completeCpuid_regs, fn8000_000A_of_not_svm s.draws hsvm]

end Sys2Proof.Machine
end

section
/-! PROOFS. Decoding and encoding are inverse (30_encoding.md R40 to R45). The byte decoder accepts exactly two bytes; the
function-select map and the numbers of the rows are inverse to each other, so that the row of a selector is the one row that
the selector belongs to. -/

namespace Sys2Proof

/-! ## The function-select map -/

/-- The number of a function row selects that row. -/
theorem selectFunction_of_functionNumber {i : Instr} {fn : Word} (h : i.functionNumber = some fn) :
    selectFunction fn = i := by
  cases i with
  | cpuid => cases h
  | _ => cases h; rfl

/-- Every entry of the map is a function row with its own number (30_encoding.md R45). -/
theorem functionNumber_of_mem_functionMap : ∀ p ∈ functionMap, p.2.functionNumber = some p.1 := by decide

/-- The map has an entry for every number the source names. -/
theorem map_fst_functionMap : functionMap.map Prod.fst = namedFunctions := rfl

/-- What a selector names: a function row by its own number, or the row CPUID by a number that no function row has. -/
theorem selectFunction_cases (eax : Word) :
    (selectFunction eax).functionNumber = some eax ∨ (eax ∉ namedFunctions ∧ selectFunction eax = .cpuid) := by
  unfold selectFunction
  cases hrow : functionMap.lookup eax with
  | some i =>
    obtain ⟨before, after, hmap, -⟩ := List.lookup_eq_some_iff.1 hrow
    exact .inl (functionNumber_of_mem_functionMap (eax, i) (by simp [hmap]))
  | none =>
    refine .inr ⟨fun hnamed => ?_, rfl⟩
    obtain ⟨p, hp, rfl⟩ := List.mem_map.1 (map_fst_functionMap ▸ hnamed)
    simpa using List.lookup_eq_none_iff.1 hrow p hp

/-- The list of all rows leaves none out. -/
theorem Instr.mem_all (i : Instr) : i ∈ Instr.all := by
  cases i <;> decide

/-- A selector with no function row of its own selects the row CPUID. -/
theorem selectFunction_of_not_mem {eax : Word} (h : eax ∉ namedFunctions) : selectFunction eax = .cpuid := by
  obtain hown | ⟨-, hcpuid⟩ := selectFunction_cases eax
  · exact absurd (List.mem_filterMap.2 ⟨_, Instr.mem_all _, hown⟩) h
  · exact hcpuid

/-- Only the row CPUID stands for no one function number. -/
theorem Instr.functionNumber_eq_none_iff {i : Instr} : i.functionNumber = none ↔ i = .cpuid := by
  cases i <;> simp [Instr.functionNumber]

/-- The selector belongs to a row exactly when it selects that row. -/
theorem Instr.wellFormedFor_iff {i : Instr} {eax : Word} : i.wellFormedFor eax = true ↔ selectFunction eax = i := by
  constructor
  · intro h
    unfold Instr.wellFormedFor at h
    split at h
    case h_1 fn hfn =>
      obtain rfl := of_decide_eq_true h
      exact selectFunction_of_functionNumber hfn
    case h_2 hnone =>
      rw [Instr.functionNumber_eq_none_iff.1 hnone]
      exact selectFunction_of_not_mem (by simpa using h)
  · rintro rfl
    obtain hown | ⟨hnot, hcpuid⟩ := selectFunction_cases eax
    · simp [Instr.wellFormedFor, hown]
    · simp [hcpuid, Instr.wellFormedFor, Instr.functionNumber, hnot]

/-! ## The byte decoder -/

/-- The byte decoder accepts exactly 0Fh A2h (30_encoding.md R40). -/
theorem decodeBytes_eq_ok_iff {bytes rest : List Byte} {i : Instr} :
    decodeBytes bytes = .ok (i, rest) ↔ bytes = 0x0F#8 :: 0xA2#8 :: rest ∧ i = .cpuid := by
  constructor
  · intro h
    unfold decodeBytes at h
    split at h
    · cases h
    · split_ifs at h with h0
      · split at h
        · cases h
        · split_ifs at h with h1
          cases h
          exact ⟨by rw [h0, h1, opcodeByte0, opcodeByte1], rfl⟩
  · rintro ⟨rfl, rfl⟩
    rfl

/-- Bytes that begin with those of CPUID decode to the row of the selector. -/
theorem decode_cpuid_bytes (rest : List Byte) (eax : Word) :
    decode (0x0F#8 :: 0xA2#8 :: rest) eax = .ok (selectFunction eax, rest) := rfl

/-- The byte decoder's error is the error of the whole decoding. -/
theorem decode_of_error {bytes : List Byte} {e : DecodeError} (eax : Word) (h : decodeBytes bytes = .error e) :
    decode bytes eax = .error e := by
  simp [decode, h]

/-- Bytes and selector decode exactly to the row of the selector, from the bytes of CPUID. -/
theorem decode_eq_ok_iff {bytes rest : List Byte} {eax : Word} {i : Instr} :
    decode bytes eax = .ok (i, rest) ↔ bytes = encode i ++ rest ∧ selectFunction eax = i := by
  constructor
  · intro h
    cases hb : decodeBytes bytes with
    | error e => simp [decode_of_error eax hb] at h
    | ok p =>
      obtain ⟨rfl, -⟩ := decodeBytes_eq_ok_iff.1 hb
      rw [decode_cpuid_bytes] at h
      cases h
      exact ⟨rfl, rfl⟩
  · rintro ⟨rfl, rfl⟩
    rfl

/-! ## Bytes that are refused -/

/-- The first byte of CPUID is no byte of the refused classes. -/
theorem ne_opcodeByte0_of_isPrefixByte {b : Byte} (h : isPrefixByte b = true) : b ≠ opcodeByte0 := by
  rintro rfl
  exact absurd h (by decide)

/-- After any bytes of the refused classes, CPUID is refused by name (30_encoding.md R42). -/
theorem prefixedForm_append (ps rest : List Byte) (h : ∀ b ∈ ps, isPrefixByte b = true) :
    prefixedForm (ps ++ 0x0F#8 :: 0xA2#8 :: rest) = .prefixedCpuid := by
  induction ps with
  | nil => rfl
  | cons p ps ih =>
    obtain ⟨hp, hps⟩ := List.forall_mem_cons.1 h
    simp [prefixedForm, hp, ih hps]

/-- CPUID after at least one byte of the refused classes is no instruction, and is refused by name. -/
theorem decodeBytes_prefixed {ps : List Byte} (rest : List Byte) (hne : ps ≠ []) (h : ∀ b ∈ ps, isPrefixByte b = true) :
    decodeBytes (ps ++ 0x0F#8 :: 0xA2#8 :: rest) = .error .prefixedCpuid := by
  obtain ⟨p, ps, rfl⟩ := List.exists_cons_of_ne_nil hne
  obtain ⟨hp, hps⟩ := List.forall_mem_cons.1 h
  simp [decodeBytes, hp, ne_opcodeByte0_of_isPrefixByte hp, prefixedForm_append ps rest hps]

/-- Two bytes that are not CPUID, the first of no refused class, begin an instruction of another kind. -/
theorem decodeBytes_other {b0 b1 : Byte} (rest : List Byte) (hp : isPrefixByte b0 = false)
    (hne : ¬(b0 = 0x0F#8 ∧ b1 = 0xA2#8)) : decodeBytes (b0 :: b1 :: rest) = .error .notCpuid := by
  by_cases h0 : b0 = opcodeByte0
  · have h1 : b1 ≠ opcodeByte1 := fun h1 => hne ⟨h0, h1⟩
    simp [decodeBytes, h0, h1]
  · simp [decodeBytes, h0, hp]

/-! ## The statements -/

/-- Settles O1: the bytes of every row are those of CPUID, and a selector that belongs to a row selects it. -/
theorem decodeInvertsEncode : Obligations.DecodeInvertsEncode := by
  intro i eax rest hwf
  exact decode_eq_ok_iff.2 ⟨rfl, Instr.wellFormedFor_iff.1 hwf⟩

/-- Settles O2: the other direction of the same equivalence. -/
theorem onlyEncodingsDecode : Obligations.OnlyEncodingsDecode := by
  intro bytes eax i rest h
  obtain ⟨hbytes, hsel⟩ := decode_eq_ok_iff.1 h
  exact ⟨hbytes, Instr.wellFormedFor_iff.2 hsel⟩

/-- Settles O3: the one row is the row that the selector selects. -/
theorem everySelectorNamesOneRow : Obligations.EverySelectorNamesOneRow := by
  intro eax
  exact ⟨selectFunction eax, Instr.wellFormedFor_iff.2 rfl, fun j hj => (Instr.wellFormedFor_iff.1 hj).symm⟩

/-- Settles O4: each word of the table, read by the decoder. -/
theorem tableWordsDecode : Obligations.TableWordsDecode := by
  unfold Obligations.TableWordsDecode
  decide

end Sys2Proof
end

section
/-! PROOFS. One step of a core. Every instruction is one execution of CPUID (40_cpuid_instruction.md R50), so a step that
answers a next state takes its input and completes with some four words: the frame, the invariant and the completion of
every instruction follow from that alone. The other half says which instruction the bytes at the program counter are. -/

namespace Sys2Proof.Machine

/-! ## What an instruction can do -/

/-- Every instruction is one execution of CPUID that returns some four words. -/
theorem exec_eq_completeCpuid (i : Instr) (s : State) : ∃ r, exec i s = .next (s.completeCpuid r) := by
  cases hfn : i.functionNumber with
  | none =>
    obtain rfl := Instr.functionNumber_eq_none_iff.1 hfn
    exact ⟨_, rfl⟩
  | some fn =>
    obtain ⟨-, hexec⟩ | ⟨-, hexec⟩ := exec_functionRow s hfn
    · exact ⟨_, hexec⟩
    · exact ⟨_, hexec⟩

/-- A step that answers a next state has taken its input and completed with some four words. -/
theorem eq_completeCpuid_of_step {s t : State} (h : step s = .next t) : ∃ r, t = s.takeInput.completeCpuid r := by
  obtain ⟨i, -, hstep⟩ | ⟨r, -, hstep⟩ | ⟨r, -, hstep⟩ := step_cases s
  · obtain ⟨r, hexec⟩ := exec_eq_completeCpuid i s.takeInput
    rw [hstep, hexec] at h
    cases h
    exact ⟨r, rfl⟩
  · cases hstep.symm.trans h
  · cases hstep.symm.trans h

/-- The environment's input does not move the program counter. -/
@[simp] theorem State.takeInput_nextPc (s : State) : s.takeInput.nextPc = s.nextPc := rfl

/-! ## Which instruction a step runs -/

/-- The fetch answers the instruction that the bytes and EAX decode to. -/
theorem State.fetchInstr_of_ok {s : State} {i : Instr} {rest : List Byte}
    (h : decode s.fetchBytes s.eax = .ok (i, rest)) : s.fetchInstr = .ok i := by
  simp [State.fetchInstr, h]

/-- The fetch stops as the decoder's error says. -/
theorem State.fetchInstr_of_error {s : State} {e : DecodeError} (h : decodeBytes s.fetchBytes = .error e) :
    s.fetchInstr = .error (s.fetchStop s.fetchBytes e) := by
  simp [State.fetchInstr, decode_of_error _ h]

/-- A step runs the instruction that the bytes and EAX decode to. -/
theorem step_of_decode {s : State} {i : Instr} {rest : List Byte} (h : decode s.fetchBytes s.eax = .ok (i, rest)) :
    step s = exec i s.takeInput := by
  have hfetch : s.takeInput.fetchInstr = .ok i := State.fetchInstr_of_ok (by simpa using h)
  simp [step, hfetch]

/-- Where the fetch sees the bytes of CPUID, the step runs the row of the selector. -/
theorem step_of_cpuid_bytes {s : State} {rest : List Byte} (h : s.fetchBytes = 0x0F#8 :: 0xA2#8 :: rest) :
    step s = exec (selectFunction s.eax) s.takeInput :=
  step_of_decode (by rw [h, decode_cpuid_bytes])

/-- The step refuses prefixed CPUID by name. -/
theorem step_of_prefixedCpuid {s : State} (h : decodeBytes s.fetchBytes = .error .prefixedCpuid) :
    step s = .refused .prefixedCpuid := by
  have hfetch := State.fetchInstr_of_error (s := s.takeInput) (by simpa using h)
  simp [step, hfetch, State.fetchStop]

/-- The step refuses the bytes of any other instruction. -/
theorem step_of_notCpuid {s : State} (h : decodeBytes s.fetchBytes = .error .notCpuid) :
    step s = .refused .outsideSpec := by
  have hfetch := State.fetchInstr_of_error (s := s.takeInput) (by simpa using h)
  simp [step, hfetch, State.fetchStop]

/-- Bytes that end early, inside the window of the fetch, fault at the first address that holds none (log 8). -/
theorem step_of_incomplete {s : State} (h : decodeBytes s.fetchBytes = .error .incomplete)
    (hlen : s.fetchBytes.length < fetchWindow) :
    step s = .fault (.fetchAbsent (s.addressAfter s.pc (BitVec.ofNat 64 s.fetchBytes.length))) := by
  have hfetch := State.fetchInstr_of_error (s := s.takeInput) (by simpa using h)
  simp [step, hfetch, State.fetchStop, hlen, State.addressAfter]

/-! ## The row of the selector is CPUID -/

/-- The row that EAX selects does what the whole dispatch does (40_cpuid_instruction.md R51). -/
theorem exec_selectFunction {s : State} (h : s.cfg.wellFormed = true) :
    exec (selectFunction s.eax) s = exec .cpuid s := by
  obtain hown | ⟨-, hcpuid⟩ := selectFunction_cases s.eax
  · exact functionRowIsCpuidPreloaded _ _ s h hown
  · rw [hcpuid]

/-! ## A placed row -/

/-- The next address differs: an address wraps around at the width of the program counter, past at least two of them. -/
theorem State.addressAfter_one_ne (s : State) (a : Addr) : (s.addressAfter a 1).toNat ≠ a.toNat := by
  have hone : (1 : Addr).toNat = 1 := rfl
  simp only [State.addressAfter, PcWidth.wrap, BitVec.toNat_setWidth, BitVec.toNat_add, hone]
  cases s.pcWidth <;> simp only [PcWidth.bits] <;> omega

/-- A placed function row is the two bytes of CPUID at the program counter, and its number in EAX. -/
theorem State.withFetchWord_functionRow (s : State) (fn : Word) :
    s.withFetchWord 32 fn.toNat = (s.loadBytes s.pc [0x0F#8, 0xA2#8]).writeReg .eax fn := by
  simp [State.withFetchWord, State.placeRow, isFunctionRow, rowBytes, encode, opcodeByte0, opcodeByte1]

/-- What memory reads as after two bytes are loaded: the second byte was written last. -/
theorem State.loadBytes_two_read (s : State) (a : Addr) (b0 b1 : Byte) (x : Nat) :
    Memory.read (s.loadBytes a [b0, b1]).mem x =
      if x = (s.addressAfter a 1).toNat then some b1 else if x = a.toNat then some b0 else Memory.read s.mem x := by
  rw [State.loadBytes, State.loadBytes, State.loadBytes]
  simp only [Memory.read_write]

/-- Two bytes loaded at the program counter are what the fetch sees first. -/
theorem State.fetchBytes_loadBytes_two (s : State) (b0 b1 : Byte) :
    ∃ rest, (s.loadBytes s.pc [b0, b1]).fetchBytes = b0 :: b1 :: rest := by
  have hne := (s.addressAfter_one_ne s.pc).symm
  have hnext : (s.loadBytes s.pc [b0, b1]).addressAfter s.pc 1 = s.addressAfter s.pc 1 := by
    simp [State.addressAfter]
  refine State.fetchBytes_of_two ?_ ?_
  · rw [State.loadBytes_pc, State.loadBytes_two_read, if_neg hne, if_pos rfl]
  · rw [State.loadBytes_pc, hnext, State.loadBytes_two_read, if_pos rfl]

/-- A register write changes nothing that a fetch reads. -/
@[simp] theorem State.fetchBytes_writeReg (s : State) (r : Reg) (v : Word) :
    (s.writeReg r v).fetchBytes = s.fetchBytes := by
  rw [State.fetchBytes, State.writeReg_pc]
  exact State.bytesFrom_congr (by simp) (by simp) _ _

/-! ## The statements -/

/-- Settles O11: a completed execution keeps the configuration and memory, and its program counter is reduced. -/
theorem stepKeepsInvariant : Obligations.StepKeepsInvariant := by
  rintro s t ⟨hcfg, -, hmem⟩ hstep
  obtain ⟨r, rfl⟩ := eq_completeCpuid_of_step hstep
  exact ⟨by simpa using hcfg, by simp, by simpa using hmem⟩

/-- Settles O5: the byte decoder refuses the prefixed form, and so does the step. -/
theorem prefixedCpuidIsRefused : Obligations.PrefixedCpuidIsRefused := by
  intro s ps rest hne hprefix hbytes
  exact step_of_prefixedCpuid (by rw [hbytes, decodeBytes_prefixed rest hne hprefix])

/-- Settles O6: the byte decoder finds another instruction, which the step refuses. -/
theorem otherBytesAreRefused : Obligations.OtherBytesAreRefused := by
  intro s b0 b1 rest hbytes hprefix hne
  exact step_of_notCpuid (by rw [hbytes, decodeBytes_other rest hprefix hne])

/-- Settles O7: the next fetch sees the placed bytes and the step decodes them with the placed number. -/
theorem placedRowRunsNext : Obligations.PlacedRowRunsNext := by
  intro s fn _
  rw [State.withFetchWord_functionRow]
  obtain ⟨rest, hbytes⟩ := s.fetchBytes_loadBytes_two 0x0F#8 0xA2#8
  refine ⟨step_of_cpuid_bytes (by rw [State.fetchBytes_writeReg, hbytes]), ?_⟩
  simp +contextual [State.loadBytes_two_read]

/-- Settles O8: the fetch answers the decoded instruction; the input taken is the APIC condition of this step. -/
theorem stepRunsDecodedInstruction : Obligations.StepRunsDecodedInstruction := by
  intro s i rest h
  exact ⟨step_of_decode h, rfl⟩

/-- Settles O9: the step runs the row that EAX selects, which does what CPUID does. -/
theorem cpuidBytesExecute : Obligations.CpuidBytesExecute := by
  intro s hwf h0 h1
  obtain ⟨rest, hbytes⟩ := State.fetchBytes_of_two h0 h1
  rw [step_of_cpuid_bytes hbytes]
  exact exec_selectFunction (s := s.takeInput) hwf

/-- Settles O10: no byte or one byte of CPUID ends early, and the first absent address is as many bytes further on. -/
theorem fetchFaultsWhereNothingIsListed : Obligations.FetchFaultsWhereNothingIsListed := by
  intro s hpc
  refine ⟨fun hnone => ?_, fun hfirst hnone => ?_⟩
  · have hbytes := State.fetchBytes_of_none hnone
    have hzero : s.addressAfter s.pc (BitVec.ofNat 64 0) = s.pc := (s.addressAfter_zero s.pc).trans hpc
    rw [step_of_incomplete (by rw [hbytes]; rfl) (by rw [hbytes]; decide), hbytes, List.length_nil, hzero]
  · have hbytes := State.fetchBytes_of_one hfirst hnone
    rw [step_of_incomplete (by rw [hbytes]; rfl) (by rw [hbytes]; decide), hbytes]
    rfl

/-- Settles O14: the frame of a completed execution, after the input is taken. -/
theorem stepFrame : Obligations.StepFrame := by
  intro s t hstep
  obtain ⟨r, rfl⟩ := eq_completeCpuid_of_step hstep
  simp

/-- Settles O15: every instruction is one completed execution of CPUID, which has the frame. -/
theorem everyInstructionCompletes : Obligations.EveryInstructionCompletes := by
  intro i s
  obtain ⟨r, hexec⟩ := exec_eq_completeCpuid i s
  exact ⟨_, hexec, s.completeCpuid_frame r⟩

/-- Settles O16: the row CPUID completes with the words of the whole dispatch. -/
theorem cpuidReturnsItsResult : Obligations.CpuidReturnsItsResult := by
  intro s
  exact ⟨_, rfl, s.completeCpuid_frame _, rfl⟩

/-- Settles O12: the free configuration is one in scope, address 0 is within the width, and empty memory is canonical. -/
theorem resetMeetsInvariant : Obligations.ResetMeetsInvariant :=
  ⟨Config.coreCfg_wellFormed 0, by decide, rfl⟩

/-- Settles O13: reset is core 0 with the values that the model's log names. -/
theorem resetValues : Obligations.ResetValues :=
  ⟨rfl, rfl, rfl, rfl, rfl, rfl⟩

end Sys2Proof.Machine
end

section
/-! PROOFS. CPUID as a whole (40_cpuid_instruction.md R52 to R58): the two ranges and the gaps between them, the functions that
return four draws, and a second execution with the selector that the first one left. -/

namespace Sys2Proof.Machine

/-! ## The ranges of function numbers -/

/-- The bounds of the two ranges (10_state.md R22 item 1; decision D18). -/
theorem rangesValid_iff {cfg : Cfg} : cfg.rangesValid = true ↔
    0x00000001#32 ≤ cfg.maxStdFn ∧ cfg.maxStdFn < 0x80000000#32 ∧ 0x80000000#32 ≤ cfg.maxExtFn := by
  simp [Cfg.rangesValid, and_assoc]

/-- The standard range as an inequality. -/
theorem isStandard_iff {cfg : Cfg} {fn : Word} : isStandard cfg fn = true ↔ fn ≤ cfg.maxStdFn := by
  simp [isStandard]

/-- The extended range as inequalities. -/
theorem isExtended_iff {cfg : Cfg} {fn : Word} :
    isExtended cfg fn = true ↔ 0x80000000#32 ≤ fn ∧ fn ≤ cfg.maxExtFn := by
  simp [isExtended]

/-- An undefined function is in neither range (40_cpuid_instruction.md R55). -/
theorem isUndefined_iff {cfg : Cfg} {fn : Word} :
    isUndefined cfg fn = true ↔ isStandard cfg fn = false ∧ isExtended cfg fn = false := by
  simp [isUndefined]

/-- Fn0000_0000 is a standard function whatever the limit. -/
theorem isStandard_zero (cfg : Cfg) : isStandard cfg 0x00000000#32 = true :=
  isStandard_iff.2 (by bv_omega)

/-- MaxStdFn is itself the number of a standard function. -/
theorem isStandard_maxStdFn (cfg : Cfg) : isStandard cfg cfg.maxStdFn = true :=
  isStandard_iff.2 (BitVec.le_refl _)

/-- Fn8000_0000 is an extended function of every processor in scope. -/
theorem isExtended_base {cfg : Cfg} (h : cfg.rangesValid = true) : isExtended cfg 0x80000000#32 = true := by
  obtain ⟨-, -, hmax⟩ := rangesValid_iff.1 h
  exact isExtended_iff.2 ⟨by decide, hmax⟩

/-- With an extended function the core has every extended function of a smaller number. -/
theorem isExtended_of_le {cfg : Cfg} {fn gn : Word} (h : isExtended cfg gn = true) (hbase : 0x80000000#32 ≤ fn)
    (hle : fn ≤ gn) : isExtended cfg fn = true :=
  isExtended_iff.2 ⟨hbase, BitVec.le_trans hle (isExtended_iff.1 h).2⟩

/-! ## The functions that return draws -/

/-- The standard numbers from 2 on have no words of their own (40_cpuid_instruction.md R57). -/
theorem standardFunction_of_two_le {fn : Word} (cfg : Cfg) (apicEnabled : Bool) (d : Quad) (h : 0x00000002#32 ≤ fn) :
    standardFunction cfg apicEnabled d fn = d := by
  simp (disch := bv_omega) only [standardFunction, if_neg, unspecified]

/-- The extended numbers from 8000_001Ah on have no words of their own (40_cpuid_instruction.md R57). -/
theorem extendedFunction_of_ge {fn : Word} (cfg : Cfg) (name : NameString) (apicEnabled : Bool) (d : Quad)
    (h : 0x8000001A#32 ≤ fn) : extendedFunction cfg name apicEnabled d fn = d := by
  simp (disch := bv_omega) only [extendedFunction, if_neg, unspecified]

/-- An undefined function returns the draws (40_cpuid_instruction.md R55; decision D10). -/
theorem cpuidResult_of_isUndefined {cfg : Cfg} {fn : Word} (name : NameString) (apicEnabled : Bool) (d : Quad)
    (h : isUndefined cfg fn = true) : cpuidResult cfg name apicEnabled d fn = d := by
  obtain ⟨hstd, hext⟩ := isUndefined_iff.1 h
  simp [cpuidResult_eq, extendedWords, hstd, hext, unspecified]

/-- Four draws are the same in range and out of range. -/
theorem State.runExtended_draws (s : State) (fn : Word) :
    s.runExtended fn (unspecified s.draws) = .next (s.completeCpuid s.draws) := by
  simp [State.runExtended, extendedWords, unspecified]

/-- A function row whose number the core does not have returns the draws. -/
theorem exec_functionRow_of_isUndefined {i : Instr} {fn : Word} {s : State} (hrow : i.functionNumber = some fn)
    (h : isUndefined s.cfg fn = true) : exec i s = .next (s.completeCpuid s.draws) := by
  obtain ⟨hstd, hext⟩ := isUndefined_iff.1 h
  obtain ⟨-, hexec⟩ | ⟨-, hexec⟩ := exec_functionRow s hrow
  · simp [hexec, State.runStandard, standardWords, hstd, unspecified]
  · simp [hexec, State.runExtended, extendedWords, hext, unspecified]

/-! ## The functions that return the limits -/

/-- CPUID runs the words of the number in EAX. -/
theorem exec_cpuid (s : State) : exec .cpuid s = .next (s.completeCpuid (s.cpuidWords s.eax)) := rfl

/-- The dispatch answers function 0 on every configuration. -/
theorem cpuidResult_zero (cfg : Cfg) (name : NameString) (apicEnabled : Bool) (d : Quad) :
    cpuidResult cfg name apicEnabled d 0x00000000#32 = fn0000_0000 cfg := by
  rw [cpuidResult_of_lt _ _ _ _ (by decide), standardWords, if_pos (isStandard_zero cfg), standardFunction, if_pos rfl]

/-- The dispatch answers function 8000_0000h on every processor in scope. -/
theorem cpuidResult_extendedBase {cfg : Cfg} (name : NameString) (apicEnabled : Bool) (d : Quad)
    (h : cfg.rangesValid = true) : cpuidResult cfg name apicEnabled d 0x80000000#32 = fn8000_0000 cfg := by
  rw [cpuidResult_of_ge _ _ _ h (by decide), extendedWords, if_pos (isExtended_base h), extendedFunction, if_pos rfl]

/-! ## The statements -/

/-- Settles O18: MaxStdFn lies below 8000_0000h and MaxExtFn does not, so the four bounds order all numbers. -/
theorem rangesAreDisjoint : Obligations.RangesAreDisjoint := by
  intro cfg fn hwf
  obtain ⟨hranges, -⟩ := (Cfg.wellFormed_iff cfg).1 hwf
  obtain ⟨-, hstd, hext⟩ := rangesValid_iff.1 hranges
  rw [isUndefined_iff, Bool.eq_false_iff, Bool.eq_false_iff, Ne, Ne, isStandard_iff, isExtended_iff]
  constructor
  · bv_omega
  · bv_omega

/-- Settles O19: a function row fails its range test; the row CPUID fails both. -/
theorem unavailableFunctionsDraw : Obligations.UnavailableFunctionsDraw := by
  intro i s hundef
  cases hrow : i.functionNumber with
  | some fn => exact ⟨_, exec_functionRow_of_isUndefined hrow (by simpa [hrow] using hundef), rfl⟩
  | none =>
    obtain rfl := Instr.functionNumber_eq_none_iff.1 hrow
    exact ⟨_, rfl, cpuidResult_of_isUndefined _ _ _ hundef⟩

/-- Settles O20: in a range or not, such a number has no words of its own. -/
theorem undescribedFunctionsDraw : Obligations.UndescribedFunctionsDraw := by
  intro s h
  refine ⟨_, exec_cpuid s, ?_⟩
  rw [State.completeCpuid_regs, State.cpuidWords, cpuidResult_eq]
  have hstd : standardFunction s.cfg s.apicEnabled s.draws s.eax = s.draws :=
    standardFunction_of_two_le _ _ _ (by bv_omega)
  obtain ⟨-, hle⟩ | ⟨hge, -⟩ := h
  · rw [if_pos (isStandard_iff.2 hle), hstd]
  · simp [hstd, extendedFunction_of_ge _ _ _ _ hge, extendedWords, unspecified]

/-- Settles O24: the first execution leaves the limit of its range in EAX, and the second one runs it. -/
theorem secondCpuidRunsTheLimit : Obligations.SecondCpuidRunsTheLimit := by
  intro s hwf hsel
  obtain ⟨hranges, -⟩ := (Cfg.wellFormed_iff s.cfg).1 hwf
  refine ⟨_, _, exec_cpuid s, exec_cpuid _, ?_⟩
  have hlimit : (s.cpuidWords s.eax).eax = if s.eax = 0x00000000#32 then s.cfg.maxStdFn else s.cfg.maxExtFn := by
    obtain h | h := hsel
    · rw [h, State.cpuidWords, cpuidResult_zero, if_pos rfl]
      rfl
    · rw [h, State.cpuidWords, cpuidResult_extendedBase _ _ _ hranges, if_neg (by decide)]
      rfl
  rw [State.completeCpuid_regs, State.cpuidWords, State.completeCpuid_eax, hlimit]
  rfl

/-- Settles O45: each of the sixteen rows runs `Unspecified()`, so its range test decides nothing. -/
theorem reservedFunctionsDraw : Obligations.ReservedFunctionsDraw := by
  intro s i hi
  simp only [List.mem_cons, List.not_mem_nil, or_false] at hi
  rcases hi with rfl | rfl | rfl | rfl | rfl | rfl | rfl | rfl | rfl | rfl | rfl | rfl | rfl | rfl | rfl | rfl <;>
    exact ⟨_, s.runExtended_draws _, rfl⟩

end Sys2Proof.Machine
end

section
/-! PROOFS. Defined bits and draws (30_encoding.md R46; decisions D12 and D14). A returned word is joined from parts, each
either defined or the draw's own bits in that place. What a mask says of a word is shown for one defined part and one drawn
part, and is kept when parts are joined; the four words of a function then have the masks of their parts. -/

namespace Sys2Proof.Machine

/-! ## A part of a word under a mask -/

/-- The part `f`, at bits `lo` and up of the word it makes from the word's draw, under the mask `m`: the bits of the mask
do not depend on the draw, and the others are the draw's. -/
structure DrawnOutside {n : Nat} (f : Word → BitVec n) (lo : Nat) (m : BitVec n) : Prop where
  defined : ∀ d d', f d &&& m = f d' &&& m
  drawn : ∀ d, f d &&& ~~~m = d.extractLsb' lo n &&& ~~~m

namespace DrawnOutside

/-- A defined part. -/
theorem const {n lo : Nat} (c : BitVec n) : DrawnOutside (fun _ => c) lo (BitVec.allOnes n) where
  defined _ _ := rfl
  drawn _ := by simp

/-- A reserved field. -/
theorem extractLsb {hi lo : Nat} : DrawnOutside (fun d => d.extractLsb hi lo) lo 0#(hi - lo + 1) where
  defined _ _ := by simp
  drawn _ := rfl

/-- A word that is reserved as a whole. -/
theorem id : DrawnOutside (fun d => d) 0 0#32 where
  defined _ _ := by simp
  drawn _ := by simp

/-- Two parts joined: the upper one begins where the lower one ends. -/
theorem append {k n lo : Nat} {f : Word → BitVec k} {g : Word → BitVec n} {m : BitVec k} {m' : BitVec n}
    (hf : DrawnOutside f (lo + n) m) (hg : DrawnOutside g lo m') :
    DrawnOutside (fun d => f d ++ g d) lo (m ++ m') where
  defined d d' := by
    rw [BitVec.and_append, BitVec.and_append, hf.defined d d', hg.defined d d']
  drawn d := by
    have hsplit : d.extractLsb' lo (k + n) = d.extractLsb' (lo + n) k ++ d.extractLsb' lo n := by
      rw [BitVec.extractLsb'_append_extractLsb'_eq_extractLsb' (by omega)]
    rw [BitVec.not_append, BitVec.and_append, hsplit, BitVec.and_append, hf.drawn d, hg.drawn d]

end DrawnOutside

/-! ## The words under their masks -/

section
open DrawnOutside

/-- Fn0000_0001_EBX: LogicalProcessorCount is reserved when HTT = 0 (41_standard_functions.md R71). -/
theorem misc1_drawnOutside (cfg : Cfg) :
    DrawnOutside (misc1 cfg) 0 (if cfg.htt = true then allBits else 0xFF00FFFF#32) := by
  unfold misc1
  cases cfg.htt with
  | true =>
    show DrawnOutside (fun d => _ ++ _) 0 (0xFF#8 ++ 0xFF#8 ++ 0xFF#8 ++ 0xFF#8)
    repeat' first | apply append | exact const _
  | false =>
    show DrawnOutside (fun d => _ ++ _) 0 (0xFF#8 ++ 0x00#8 ++ 0xFF#8 ++ 0xFF#8)
    repeat' first | apply append | exact const _ | exact extractLsb

/-- Fn0000_0001_ECX (41_standard_functions.md R76). -/
theorem feat1C_drawnOutside (cfg : Cfg) : DrawnOutside (feat1C cfg) 0 0x80002001#32 := by
  show DrawnOutside (fun d => _ ++ _) 0 (1#1 ++ 0#17 ++ 1#1 ++ 0#12 ++ 1#1)
  repeat' first | apply append | exact const _ | exact extractLsb

/-- Fn0000_0001_EDX (41_standard_functions.md R78). -/
theorem feat1D_drawnOutside (cfg : Cfg) (apicEnabled : Bool) :
    DrawnOutside (feat1D cfg apicEnabled) 0 0x178BFBFF#32 := by
  show DrawnOutside (fun d => _ ++ _) 0
    (0#3 ++ 1#1 ++ 0#1 ++ 1#1 ++ 1#1 ++ 1#1 ++ 1#1 ++ 0#3 ++ 1#1 ++ 0#1 ++ 1#1 ++ 1#1 ++ 1#1 ++ 1#1 ++ 1#1 ++ 1#1 ++ 1#1 ++
      0#1 ++ 1#1 ++ 1#1 ++ 1#1 ++ 1#1 ++ 1#1 ++ 1#1 ++ 1#1 ++ 1#1 ++ 1#1 ++ 1#1)
  repeat' first | apply append | exact const _ | exact extractLsb

/-- Fn8000_0001_EBX (42_extended_identity.md R95). -/
theorem brand_drawnOutside (cfg : Cfg) : DrawnOutside (brand cfg) 0 0x0000FFFF#32 :=
  append (m := 0#16) extractLsb (const _)

/-- Fn8000_0001_ECX (42_extended_identity.md R97). -/
theorem featXC_drawnOutside (cfg : Cfg) : DrawnOutside (featXC cfg) 0 0x00000017#32 := by
  show DrawnOutside (fun d => _ ++ _) 0 (0#27 ++ 1#1 ++ 0#1 ++ 1#1 ++ 1#1 ++ 1#1)
  repeat' first | apply append | exact const _ | exact extractLsb

/-- Fn8000_0001_EDX (42_extended_identity.md R99). -/
theorem featXD_drawnOutside (cfg : Cfg) (apicEnabled : Bool) :
    DrawnOutside (featXD cfg apicEnabled) 0 0xEBD3FBFF#32 := by
  show DrawnOutside (fun d => _ ++ _) 0
    (1#1 ++ 1#1 ++ 1#1 ++ 0#1 ++ 1#1 ++ 0#1 ++ 1#1 ++ 1#1 ++ 1#1 ++ 1#1 ++ 0#1 ++ 1#1 ++ 0#2 ++ 1#1 ++ 1#1 ++
      1#1 ++ 1#1 ++ 1#1 ++ 1#1 ++ 1#1 ++ 0#1 ++ 1#1 ++ 1#1 ++ 1#1 ++ 1#1 ++ 1#1 ++ 1#1 ++ 1#1 ++ 1#1 ++ 1#1 ++ 1#1)
  repeat' first | apply append | exact const _ | exact extractLsb

/-- Fn8000_0007_EDX (44_extended_power_addr_svm.md R141). -/
theorem apm_drawnOutside (cfg : Cfg) : DrawnOutside (apm cfg) 0 0x0000013F#32 := by
  show DrawnOutside (fun d => _ ++ _) 0 (0#23 ++ 1#1 ++ 0#2 ++ 1#1 ++ 1#1 ++ 1#1 ++ 1#1 ++ 1#1 ++ 1#1)
  repeat' first | apply append | exact const _ | exact extractLsb

/-- Fn8000_0008_EAX (44_extended_power_addr_svm.md R146). -/
theorem addrSize_drawnOutside (cfg : Cfg) : DrawnOutside (addrSize cfg) 0 0x0000FFFF#32 := by
  show DrawnOutside (fun d => _ ++ _) 0 (0#16 ++ 0xFF#8 ++ 0xFF#8)
  repeat' first | apply append | exact const _ | exact extractLsb

/-- Fn8000_0008_ECX (44_extended_power_addr_svm.md R148). -/
theorem coreCount_drawnOutside (cfg : Cfg) : DrawnOutside (coreCount cfg) 0 0x0000F0FF#32 := by
  show DrawnOutside (fun d => _ ++ _) 0 (0#16 ++ 0xF#4 ++ 0#4 ++ 0xFF#8)
  repeat' first | apply append | exact const _ | exact extractLsb

/-- Fn8000_000A_EAX with SVM (44_extended_power_addr_svm.md R151). -/
theorem svmRev_drawnOutside (cfg : Cfg) :
    DrawnOutside (fun d : Word => (d.extractLsb 31 8 ++ cfg.svmRev : Word)) 0 0x000000FF#32 :=
  append (m := 0#24) extractLsb (const _)

end

/-! ## The four words of a function under their masks -/

/-- A function's words, from the four draws, under the mask of its defined bits. -/
def WordsDrawnOutside (f : Quad → Quad) (m : Quad) : Prop :=
  ∀ d d', (f d).mask m = (f d').mask m ∧ (f d).mask m.complement = d.mask m.complement

/-- A function each of whose words comes from the draw of its own register. -/
theorem wordsDrawnOutside_of_words {f : Quad → Quad} {a b c e : Word → Word} {m : Quad} (ha : DrawnOutside a 0 m.eax)
    (hb : DrawnOutside b 0 m.ebx) (hc : DrawnOutside c 0 m.ecx) (he : DrawnOutside e 0 m.edx)
    (hf : ∀ d, f d = ⟨a d.eax, b d.ebx, c d.ecx, e d.edx⟩) : WordsDrawnOutside f m := by
  intro d d'
  rw [hf, hf]
  constructor
  · simp only [Quad.mask, ha.defined d.eax d'.eax, hb.defined d.ebx d'.ebx, hc.defined d.ecx d'.ecx,
      he.defined d.edx d'.edx]
  · simp [Quad.mask, Quad.complement, ha.drawn, hb.drawn, hc.drawn, he.drawn]

/-- A function all of whose bits are defined. -/
theorem wordsDrawnOutside_const (q : Quad) :
    WordsDrawnOutside (fun _ => q) ⟨allBits, allBits, allBits, allBits⟩ :=
  wordsDrawnOutside_of_words (.const q.eax) (.const q.ebx) (.const q.ecx) (.const q.edx) fun _ => rfl

/-- `Unspecified()`, none of whose bits is defined (40_cpuid_instruction.md R56). -/
theorem wordsDrawnOutside_unspecified : WordsDrawnOutside unspecified ⟨0, 0, 0, 0⟩ :=
  wordsDrawnOutside_of_words .id .id .id .id fun _ => rfl

/-- A test that the words and the mask share. -/
theorem WordsDrawnOutside.ite {c : Prop} [Decidable c] {f g : Quad → Quad} {m m' : Quad} (hf : WordsDrawnOutside f m)
    (hg : WordsDrawnOutside g m') :
    WordsDrawnOutside (fun d => if c then f d else g d) (if c then m else m') := by
  split
  · exact hf
  · exact hg

/-- Fn0000_0001 (41_standard_functions.md R67). -/
theorem fn0000_0001_drawnOutside (cfg : Cfg) (apicEnabled : Bool) :
    WordsDrawnOutside (fn0000_0001 cfg apicEnabled)
      ⟨allBits, if cfg.htt then allBits else 0xFF00FFFF#32, 0x80002001#32, 0x178BFBFF#32⟩ :=
  wordsDrawnOutside_of_words (.const (signature cfg)) (misc1_drawnOutside cfg) (feat1C_drawnOutside cfg)
    (feat1D_drawnOutside cfg apicEnabled) fun _ => rfl

/-- Fn8000_0001 (42_extended_identity.md R93). -/
theorem fn8000_0001_drawnOutside (cfg : Cfg) (apicEnabled : Bool) :
    WordsDrawnOutside (fn8000_0001 cfg apicEnabled) ⟨allBits, 0x0000FFFF#32, 0x00000017#32, 0xEBD3FBFF#32⟩ :=
  wordsDrawnOutside_of_words (.const (signature cfg)) (brand_drawnOutside cfg) (featXC_drawnOutside cfg)
    (featXD_drawnOutside cfg apicEnabled) fun _ => rfl

/-- Fn8000_0006 (43_extended_cache_tlb.md R126). -/
theorem fn8000_0006_drawnOutside (cfg : Cfg) : WordsDrawnOutside (fn8000_0006 cfg) ⟨allBits, allBits, allBits, 0⟩ :=
  wordsDrawnOutside_of_words (.const (fn8000_0006 cfg default).eax) (.const (fn8000_0006 cfg default).ebx)
    (.const (fn8000_0006 cfg default).ecx) .id fun _ => rfl

/-- Fn8000_0007 (44_extended_power_addr_svm.md R140). -/
theorem fn8000_0007_drawnOutside (cfg : Cfg) : WordsDrawnOutside (fn8000_0007 cfg) ⟨0, 0, 0, 0x0000013F#32⟩ :=
  wordsDrawnOutside_of_words .id .id .id (apm_drawnOutside cfg) fun _ => rfl

/-- Fn8000_0008 (44_extended_power_addr_svm.md R145). -/
theorem fn8000_0008_drawnOutside (cfg : Cfg) :
    WordsDrawnOutside (fn8000_0008 cfg) ⟨0x0000FFFF#32, 0, 0x0000F0FF#32, 0⟩ :=
  wordsDrawnOutside_of_words (addrSize_drawnOutside cfg) .id (coreCount_drawnOutside cfg) .id fun _ => rfl

/-- Fn8000_000A, reserved as a whole without SVM (44_extended_power_addr_svm.md R151, R153). -/
theorem fn8000_000A_drawnOutside (cfg : Cfg) :
    WordsDrawnOutside (fn8000_000A cfg) (if cfg.svm then ⟨0x000000FF#32, allBits, 0, 0⟩ else ⟨0, 0, 0, 0⟩) :=
  .ite (wordsDrawnOutside_of_words (svmRev_drawnOutside cfg) (.const cfg.nasid) .id .id fun _ => rfl)
    wordsDrawnOutside_unspecified

/-- The standard functions define the bits that `definedMask` gives them. -/
theorem standardFunction_drawnOutside (cfg : Cfg) (apicEnabled : Bool) (fn : Word) :
    WordsDrawnOutside (fun d => standardFunction cfg apicEnabled d fn)
      (if fn = 0x00000000#32 then ⟨allBits, allBits, allBits, allBits⟩
       else if fn = 0x00000001#32 then
         ⟨allBits, if cfg.htt then allBits else 0xFF00FFFF#32, 0x80002001#32, 0x178BFBFF#32⟩
       else ⟨0, 0, 0, 0⟩) :=
  .ite (wordsDrawnOutside_const _) (.ite (fn0000_0001_drawnOutside cfg apicEnabled) wordsDrawnOutside_unspecified)

/-- The last extended functions: Fn8000_0009 and those after Fn8000_000A are reserved (44_extended_power_addr_svm.md R150,
R154). The mask does not name Fn8000_0009, which defines no bit. -/
theorem lastFunctions_drawnOutside (cfg : Cfg) (fn : Word) :
    WordsDrawnOutside
      (fun d =>
        if fn = 0x80000009#32 then unspecified d
        else if fn = 0x8000000A#32 then fn8000_000A cfg d
        else unspecified d)
      (if fn = 0x8000000A#32 then if cfg.svm then ⟨0x000000FF#32, allBits, 0, 0⟩ else ⟨0, 0, 0, 0⟩
       else ⟨0, 0, 0, 0⟩) := by
  by_cases h : fn = 0x80000009#32
  · subst h
    exact wordsDrawnOutside_unspecified
  · simp only [if_neg h]
    exact .ite (fn8000_000A_drawnOutside cfg) wordsDrawnOutside_unspecified

/-- The dispatch defines exactly the bits of `definedMask`: the two test the function number alike. -/
theorem cpuidResult_drawnOutside (cfg : Cfg) (name : NameString) (apicEnabled : Bool) (fn : Word) :
    WordsDrawnOutside (fun d => cpuidResult cfg name apicEnabled d fn) (definedMask cfg fn) :=
  .ite (standardFunction_drawnOutside cfg apicEnabled fn) <| .ite
    (.ite (wordsDrawnOutside_const _) <| .ite (fn8000_0001_drawnOutside cfg apicEnabled) <|
      .ite (wordsDrawnOutside_const _) <| .ite (wordsDrawnOutside_const _) <| .ite (wordsDrawnOutside_const _) <|
      .ite (wordsDrawnOutside_const _) <| .ite (fn8000_0006_drawnOutside cfg) <| .ite (fn8000_0007_drawnOutside cfg) <|
      .ite (fn8000_0008_drawnOutside cfg) (lastFunctions_drawnOutside cfg fn))
    wordsDrawnOutside_unspecified

/-! ## The statements -/

/-- Settles O21: the dispatch defines the bits of the mask, whatever the draws. -/
theorem reservedBitsAreDraws : Obligations.ReservedBitsAreDraws := by
  intro cfg name apicEnabled d d' fn
  exact cpuidResult_drawnOutside cfg name apicEnabled fn d d'

/-- Settles O22: both executions are the dispatch on the same arguments, but for the draws. -/
theorem resultDependsOnlyOnSelector : Obligations.ResultDependsOnlyOnSelector := by
  intro s u heax hcfg hname hapic
  refine ⟨_, _, exec_cpuid s, exec_cpuid u, ?_⟩
  rw [State.completeCpuid_regs, State.completeCpuid_regs, State.cpuidWords, State.cpuidWords, heax, hcfg, hname, hapic]
  exact (cpuidResult_drawnOutside s.cfg s.nameString s.apicEnabled s.eax s.draws u.draws).1

/-- Settles O23: an execution keeps all that the second one depends on, and EAX is loaded again. -/
theorem repeatedExecutionAgrees : Obligations.RepeatedExecutionAgrees := by
  intro s
  exact ⟨_, _, exec_cpuid s, exec_cpuid_writeReg_eax _ s.eax,
    (cpuidResult_drawnOutside s.cfg s.nameString s.apicEnabled s.eax s.draws (s.completeCpuid _).draws).1⟩

end Sys2Proof.Machine
end

section
/-! PROOFS. What software learns from the identity functions: the vendor string, the signature and the family, the limits of
the ranges, and with them which functions it may trust (41_standard_functions.md R65 to R76, 42_extended_identity.md R90 to
R95, 70_reset_and_hazards.md R189). -/

namespace Sys2Proof.Machine

/-! ## The vendor string -/

/-- The row Fn0000_0000 returns its words on every configuration (41_standard_functions.md R65). -/
theorem exec_cpuidFn0000_0000 (s : State) :
    exec .cpuidFn0000_0000 s = .next (s.completeCpuid (vendorWords s.cfg.maxStdFn)) :=
  State.runStandard_of_isStandard _ (isStandard_zero s.cfg)

/-- The row Fn8000_0000 returns its words on every processor in scope (42_extended_identity.md R90). -/
theorem exec_cpuidFn8000_0000 {s : State} (h : s.cfg.wellFormed = true) :
    exec .cpuidFn8000_0000 s = .next (s.completeCpuid (vendorWords s.cfg.maxExtFn)) := by
  obtain ⟨hranges, -⟩ := (Cfg.wellFormed_iff s.cfg).1 h
  exact State.runExtended_of_isExtended _ (isExtended_base hranges)

@[simp] theorem vendorWords_eax (limit : Word) : (vendorWords limit).eax = limit := rfl

/-- The three words of the vendor string (41_standard_functions.md R66). -/
theorem vendorWords_string (limit : Word) :
    (vendorWords limit).ebx = 0x68747541#32 ∧ (vendorWords limit).ecx = 0x444D4163#32 ∧
      (vendorWords limit).edx = 0x69746E65#32 := by
  simp only [vendorWords]
  decide

/-- In the order EBX, EDX, ECX the three words spell the vendor string, beside any limit (41_standard_functions.md R66). -/
@[simp] theorem vendorText_vendorWords (limit : Word) : vendorText (vendorWords limit) = Config.vendor.toList := by
  simp only [vendorText, vendorWords]
  decide

/-! ## The signature -/

/-- The seven fields of the signature, two of them zero (41_standard_functions.md R68; log 17). -/
theorem signature_fields (cfg : Cfg) :
    let v := signature cfg
    field v 31 28 = 0#4 ∧ field v 27 20 = cfg.extFamily ∧ field v 19 16 = cfg.extModel ∧ field v 15 12 = 0#4 ∧
      field v 11 8 = cfg.baseFamily ∧ field v 7 4 = cfg.baseModel ∧ field v 3 0 = cfg.stepping := by
  simp (disch := decide) only [field, signature, BitVec.extractLsb, BitVec.extractLsb'_append_eq_of_le,
    BitVec.extractLsb'_append_eq_of_add_le]
  simp

/-- The mask 0FFF_0FFFh drops the two zero fields only (41_standard_functions.md R68). -/
@[simp] theorem maskedSignature_signature (cfg : Cfg) : maskedSignature (signature cfg) = signature cfg := by
  show (0#4 ++ cfg.extFamily ++ cfg.extModel ++ 0#4 ++ cfg.baseFamily ++ cfg.baseModel ++ cfg.stepping) &&&
    (0#4 ++ BitVec.allOnes 8 ++ BitVec.allOnes 4 ++ 0#4 ++ BitVec.allOnes 4 ++ BitVec.allOnes 4 ++ BitVec.allOnes 4) = _
  simp only [BitVec.and_append, BitVec.and_allOnes, BitVec.and_self]
  rfl

/-- The family of a processor in scope is 15 + ExtFamily, which 8 bits hold (41_standard_functions.md R69, R70;
decision D24). -/
theorem familyOf_signature {cfg : Cfg} (h : cfg.familyValid = true) :
    (familyOf (signature cfg)).toNat = 15 + cfg.extFamily.toNat := by
  simp only [Cfg.familyValid, Bool.and_eq_true, decide_eq_true_eq] at h
  obtain ⟨hbase, hext⟩ := h
  obtain ⟨-, hextFamily, -, -, hbaseFamily, -⟩ := signature_fields cfg
  rw [familyOf, hbaseFamily, hextFamily, hbase, if_pos rfl]
  bv_omega

/-- Every processor in scope is of family 0Fh or greater. -/
theorem le_familyOf_signature {cfg : Cfg} (h : cfg.familyValid = true) : 0x0F#8 ≤ familyOf (signature cfg) := by
  have hfamily := familyOf_signature h
  bv_omega

/-- The model of a processor in scope has both parts (41_standard_functions.md R69). -/
theorem modelOf_signature {cfg : Cfg} (h : cfg.familyValid = true) :
    modelOf (signature cfg) = cfg.extModel ++ cfg.baseModel := by
  simp only [Cfg.familyValid, Bool.and_eq_true, decide_eq_true_eq] at h
  obtain ⟨hbase, -⟩ := h
  obtain ⟨-, -, hextModel, -, hbaseFamily, hbaseModel, -⟩ := signature_fields cfg
  rw [modelOf, hbaseFamily, hextModel, hbaseModel, if_pos hbase]

/-! ## Other words -/

/-- `Feat1C(cfg)` field by field (41_standard_functions.md R76). -/
theorem feat1C_fields (cfg : Cfg) (d : Word) :
    let v := feat1C cfg d
    bit v 31 = false ∧ field v 30 14 = field d 30 14 ∧ bit v 13 = cfg.cmpxchg16b ∧ field v 12 1 = field d 12 1 ∧
      bit v 0 = cfg.sse3 := by
  simp (disch := decide) only [field, bit, feat1C, BitVec.extractLsb, BitVec.extractLsb'_append_eq_of_le,
    BitVec.extractLsb'_append_eq_of_add_le, getLsbD_append_of_lt, getLsbD_append_of_le]
  simp

/-- `Brand(cfg)` field by field (42_extended_identity.md R95). -/
theorem brand_fields (cfg : Cfg) (d : Word) :
    field (brand cfg d) 31 16 = field d 31 16 ∧ field (brand cfg d) 15 0 = cfg.brandId := by
  simp (disch := decide) only [field, brand, BitVec.extractLsb, BitVec.extractLsb'_append_eq_of_le,
    BitVec.extractLsb'_append_eq_of_add_le]
  simp

/-! ## Which functions software may trust -/

/-- The comparison with the limits is the test of the ranges (40_cpuid_instruction.md R60). -/
theorem mayRelyOn_eq {cfg : Cfg} (h : cfg.rangesValid = true) (fn : Word) :
    mayRelyOn cfg.maxStdFn cfg.maxExtFn fn = !isUndefined cfg fn := by
  rw [mayRelyOn]
  split_ifs with hlt
  · simp [isUndefined, isExtended_of_lt cfg hlt, isStandard]
  · have hge : 0x80000000#32 ≤ fn := BitVec.not_lt.1 hlt
    simp [isUndefined, isStandard_of_ge h hge, isExtended, hge]

/-- What Fn8000_0001 returns in range or not: `FeatXC(cfg)` in ECX where software may rely on it. -/
theorem exec_cpuidFn8000_0001_eq (s : State) : exec .cpuidFn8000_0001 s =
    .next (s.completeCpuid (extendedWords s.cfg s.draws 0x80000001#32 (fn8000_0001 s.cfg s.apicEnabled s.draws))) := rfl

/-- A feature of Fn8000_0001_ECX as software takes it, where the core has a function of a greater number. -/
theorem takenFeature_svm {cfg : Cfg} {fn : Word} (apicEnabled : Bool) (d : Quad) (hranges : cfg.rangesValid = true)
    (hfn : isExtended cfg fn = true) (hge : 0x80000001#32 ≤ fn) :
    takenFeature cfg.maxStdFn cfg.maxExtFn 0x80000001#32
      (extendedWords cfg d 0x80000001#32 (fn8000_0001 cfg apicEnabled d)).ecx 2 = cfg.svm := by
  have hone : isExtended cfg 0x80000001#32 = true := isExtended_of_le hfn (by decide) hge
  obtain ⟨-, -, -, hsvm, -⟩ := featXC_fields cfg d.ecx
  rw [takenFeature, mayRelyOn_eq hranges, extendedWords, if_pos hone, fn8000_0001_ecx, hsvm]
  simp [isUndefined, hone]

/-! ## The statements -/

/-- Settles O25: the words of Fn0000_0000 beside those of Fn8000_0000; EAX then holds MaxStdFn, which CPUID runs. -/
theorem standardVendor : Obligations.StandardVendor := by
  intro s hwf
  obtain ⟨hebx, hecx, hedx⟩ := vendorWords_string s.cfg.maxStdFn
  exact ⟨_, _, exec_cpuidFn0000_0000 s, exec_cpuidFn8000_0000 hwf, rfl, isStandard_maxStdFn s.cfg, rfl, hebx, hecx, hedx,
    vendorText_vendorWords _, rfl, rfl, rfl⟩

/-- Settles O26: the same three words, beside a limit that lies in the extended range. -/
theorem extendedVendor : Obligations.ExtendedVendor := by
  intro s hwf
  obtain ⟨hranges, -⟩ := (Cfg.wellFormed_iff s.cfg).1 hwf
  obtain ⟨-, -, hmax⟩ := rangesValid_iff.1 hranges
  obtain ⟨hebx, hecx, hedx⟩ := vendorWords_string s.cfg.maxExtFn
  exact ⟨_, _, exec_cpuidFn8000_0000 hwf, exec_cpuidFn0000_0000 s, rfl, hmax, hebx, hecx, hedx, rfl, rfl, rfl,
    vendorText_vendorWords _⟩

/-- Settles O27: EAX is `Sig(cfg)`, and Fn8000_0001 in range returns the same word. -/
theorem signatureFields : Obligations.SignatureFields := by
  intro s hwf
  obtain ⟨hzero, hextFamily, hextModel, hzero', hbaseFamily, hbaseModel, hstepping⟩ := signature_fields s.cfg
  refine ⟨_, _, exec_cpuidFn0000_0001 hwf, exec_cpuidFn8000_0001_eq s, hzero, hextFamily, hextModel, hzero', hbaseFamily,
    hbaseModel, hstepping, maskedSignature_signature s.cfg, fun hext => ?_⟩
  simp [extendedWords, hext]

/-- Settles O30: the row returns `Feat1C(cfg)` in ECX. -/
theorem standardFeaturesEcx : Obligations.StandardFeaturesEcx := by
  intro s hwf
  exact ⟨_, exec_cpuidFn0000_0001 hwf, feat1C_fields s.cfg s.draws.ecx⟩

/-- Settles O32: the row returns `Brand(cfg)` in EBX. -/
theorem brandIdentifier : Obligations.BrandIdentifier := by
  intro s hext
  exact ⟨_, exec_cpuidFn8000_0001 hext, brand_fields s.cfg s.draws.ebx⟩

/-- Settles O46: the family, the model and the stepping are read from `Sig(cfg)`. -/
theorem familyIsInScope : Obligations.FamilyIsInScope := by
  intro s hwf
  obtain ⟨-, hfamily, -⟩ := (Cfg.wellFormed_iff s.cfg).1 hwf
  obtain ⟨-, -, -, -, -, -, hstepping⟩ := signature_fields s.cfg
  exact ⟨_, exec_cpuidFn0000_0001 hwf, maskedSignature_signature s.cfg, familyOf_signature hfamily,
    le_familyOf_signature hfamily, modelOf_signature hfamily, hstepping⟩

/-- Settles O49: the two returned limits are those of the ranges. -/
theorem supportCheckIsExact : Obligations.SupportCheckIsExact := by
  intro s fn hwf
  obtain ⟨hranges, -⟩ := (Cfg.wellFormed_iff s.cfg).1 hwf
  exact ⟨_, _, exec_cpuidFn0000_0000 s, exec_cpuidFn8000_0000 hwf, mayRelyOn_eq hranges fn⟩

/-- Settles O50: vendor and family always pass, the limits decide support, and Fn8000_000A, where the core has it, makes
Fn8000_0001 available for the SVM bit. -/
theorem trustProcedure : Obligations.TrustProcedure := by
  intro s fn hwf
  obtain ⟨hranges, hfamily, -⟩ := (Cfg.wellFormed_iff s.cfg).1 hwf
  refine ⟨_, _, _, _, exec_cpuidFn0000_0000 s, exec_cpuidFn0000_0001 hwf, exec_cpuidFn8000_0000 hwf,
    exec_cpuidFn8000_0001_eq s, ?_⟩
  simp only [State.completeCpuid_regs, trusted, vendorText_vendorWords, vendorWords_eax, fn0000_0001_eax,
    maskedSignature_signature, le_familyOf_signature hfamily, mayRelyOn_eq hranges, decide_true, Bool.true_and]
  by_cases hfn : fn = 0x8000000A#32
  · subst hfn
    cases hundef : isUndefined s.cfg 0x8000000A#32 with
    | true => simp
    | false =>
      have hext : isExtended s.cfg 0x8000000A#32 = true := by
        simpa [isUndefined, isStandard_of_ge hranges] using hundef
      simp [takenFeature_svm s.apicEnabled s.draws hranges hext]
  · simp [hfn]

end Sys2Proof.Machine
end

section
/-! PROOFS. What software reads from the cache and TLB words: the test of a unified L2 TLB, and associativity codes none of
which is reserved (43_extended_cache_tlb.md R121, R127, R128). -/

namespace Sys2Proof.Machine

/-! ## The unified L2 TLB -/

/-- The upper half of an L2 TLB word is the code and the size of the data TLB (43_extended_cache_tlb.md R129, R130). -/
theorem field_append_l2Tlb_upperHalf (dAssoc : BitVec 4) (dSize : BitVec 12) (iAssoc : BitVec 4) (iSize : BitVec 12) :
    field (dAssoc ++ dSize ++ iAssoc ++ iSize : Word) 31 16 = dAssoc ++ dSize := by
  simp (disch := decide) only [field, BitVec.extractLsb, BitVec.extractLsb'_append_eq_of_le]
  simp

/-- The data TLB of an L2 TLB word reads as absent exactly when its code and its size are zero. -/
theorem append_eq_zero_iff (assoc : BitVec 4) (size : BitVec 12) : assoc ++ size = 0#16 ↔ assoc = 0#4 ∧ size = 0#12 := by
  constructor
  · intro h
    have hassoc : (assoc ++ size).extractLsb' 12 4 = assoc := BitVec.extractLsb'_append_eq_left
    have hsize : (assoc ++ size).extractLsb' 0 12 = size := BitVec.extractLsb'_append_eq_right
    rw [h] at hassoc hsize
    exact ⟨hassoc.symm, hsize.symm⟩
  · rintro ⟨rfl, rfl⟩
    rfl

/-! ## The associativity codes -/

/-- The 8-bit code reads as reserved for the one reserved encoding (43_extended_cache_tlb.md R121). -/
theorem ways8_ne_reserved {a : BitVec 8} (h : assoc8Valid a = true) : ways8 a ≠ .reserved := by
  have hne : a ≠ 0x00#8 := of_decide_eq_true h
  rw [ways8, if_neg hne]
  split_ifs <;> simp

/-- The 4-bit code reads as reserved outside the seven encodings of Table 1 (43_extended_cache_tlb.md R127). -/
theorem ways4_ne_reserved : ∀ {a : BitVec 4}, assoc4Valid a = true → ways4 a ≠ .reserved := by decide

/-! ## The statements -/

/-- Settles O39: the test reads the upper halves of two L2 TLB words. -/
theorem unifiedTlbReading : Obligations.UnifiedTlbReading := by
  intro s hext
  refine ⟨_, exec_cpuidFn8000_0006 hext, ?_⟩
  simp [l2TlbUnified, fn8000_0006, field_append_l2Tlb_upperHalf, append_eq_zero_iff, and_assoc]

/-- Settles O40: each field reads as a code of the configuration, and the configuration's codes are all valid. -/
theorem associativityCodesAreDefined : Obligations.AssociativityCodesAreDefined := by
  intro s hwf
  obtain ⟨-, -, -, hassoc, -⟩ := (Cfg.wellFormed_iff s.cfg).1 hwf
  simp only [Cfg.assocValid, Bool.and_eq_true, List.all_eq_true, List.forall_mem_cons] at hassoc
  obtain ⟨⟨hdLarge, hiLarge, hd4K, hi4K, hdCache, hiCache, -⟩, hdLarge2, hiLarge2, hd4K2, hi4K2, hCache2, -⟩ := hassoc
  refine ⟨fun hext => ⟨_, exec_cpuidFn8000_0005 hext, ?_⟩, fun hext => ⟨_, exec_cpuidFn8000_0006 hext, ?_⟩⟩
  · simp [fn8000_0005, field_append_bytes, ways8_ne_reserved, *]
  · simp [fn8000_0006, field_append_l2Tlb, field_append_l2Cache, ways4_ne_reserved, *]

end Sys2Proof.Machine
end

section
/-! PROOFS. Cores and threads (45_core_thread_count.md R162 to R165, 44_extended_power_addr_svm.md R149): a configuration that
holds a row of Table 3, the counts that software reads from its words, and the fields that the cores of one processor share
or differ in. -/

namespace Sys2Proof.Machine

/-! ## Table 3 -/

/-- What a configuration holds that has `c` cores of one thread (45_core_thread_count.md R162). LogicalProcessorCount has a
value for two cores or more. -/
theorem holdsRow_table3_iff {cfg : Cfg} {c : Nat} : cfg.holdsRow (table3 c 1) = true ↔
    cfg.cmpLegacy = decide (2 ≤ c) ∧ cfg.htt = decide (1 < c) ∧ cfg.nc.toNat = c - 1 ∧
      (1 < c → cfg.logicalProcessorCount.toNat = c) := by
  by_cases hc : 1 < c <;> simp [Cfg.holdsRow, table3, hc, and_assoc]

/-! ## The counts that software reads -/

/-- NC + 1 from Fn8000_0008_ECX (45_core_thread_count.md R164). -/
@[simp] theorem coresPerProcessor_coreCount (cfg : Cfg) (d : Word) :
    coresPerProcessor (coreCount cfg d) = cfg.nc.toNat + 1 := by
  obtain ⟨-, -, -, hnc⟩ := coreCount_fields cfg d
  rw [coresPerProcessor, hnc]

/-- MNC from Fn8000_0008_ECX (44_extended_power_addr_svm.md R149). -/
theorem maximumCores_coreCount (cfg : Cfg) (d : Word) : maximumCores (coreCount cfg d) =
    if cfg.apicIdCoreIdSize = 0#4 then cfg.nc.toNat + 1 else 2 ^ cfg.apicIdCoreIdSize.toNat := by
  obtain ⟨-, hsize, -, -⟩ := coreCount_fields cfg d
  rw [maximumCores, hsize, coresPerProcessor_coreCount]

/-- A power of two with a nonzero 4-bit exponent lies from 2 to 32768. -/
theorem two_pow_bounds {n : BitVec 4} (h : n ≠ 0#4) : 2 ≤ 2 ^ n.toNat ∧ 2 ^ n.toNat ≤ 32768 := by
  have hpos : 1 ≤ n.toNat := by bv_omega
  have hle : n.toNat ≤ 15 := by omega
  exact ⟨Nat.pow_le_pow_right two_pos hpos, Nat.pow_le_pow_right two_pos hle⟩

@[simp] theorem fn0000_0001_ebx (cfg : Cfg) (apicEnabled : Bool) (d : Quad) :
    (fn0000_0001 cfg apicEnabled d).ebx = misc1 cfg d.ebx := rfl

@[simp] theorem fn8000_0008_ecx (cfg : Cfg) (d : Quad) : (fn8000_0008 cfg d).ecx = coreCount cfg d.ecx := rfl

/-- Threads per processor from the words of Fn0000_0001: LogicalProcessorCount counts where HTT = 1 (45_core_thread_count.md
R164). -/
theorem threadsPerProcessor_fn0000_0001 (cfg : Cfg) (apicEnabled : Bool) (d : Quad) :
    threadsPerProcessor (fn0000_0001 cfg apicEnabled d) =
      if cfg.htt = true then cfg.logicalProcessorCount.toNat else 1 := by
  obtain ⟨hhtt, -⟩ := feat1D_features cfg apicEnabled d.edx
  obtain ⟨-, hcount, -, -⟩ := misc1_fields cfg d.ebx
  rw [threadsPerProcessor, fn0000_0001_edx, hhtt, fn0000_0001_ebx, hcount]
  split_ifs <;> rfl

/-- Cores per processor the deprecated way: LogicalProcessorCount counts cores where CmpLegacy = 1 (45_core_thread_count.md
R164). -/
theorem coresDeprecated_fn0000_0001 (cfg : Cfg) (apicEnabled : Bool) (d : Quad) (e : Word) :
    coresDeprecated (fn0000_0001 cfg apicEnabled d) (featXC cfg e) =
      if cfg.htt = false then some 1
      else if cfg.cmpLegacy = true then some cfg.logicalProcessorCount.toNat else none := by
  obtain ⟨hhtt, -⟩ := feat1D_features cfg apicEnabled d.edx
  obtain ⟨-, hcount, -, -⟩ := misc1_fields cfg d.ebx
  obtain ⟨-, -, -, -, hlegacy, -⟩ := featXC_fields cfg e
  rw [coresDeprecated, fn0000_0001_edx, hhtt, fn0000_0001_ebx, hcount, hlegacy]
  cases cfg.htt <;> rfl

/-! ## The cores of one processor -/

/-- The five fields that describe the processor (45_core_thread_count.md R165). -/
theorem sameProcessor_iff {a b : Cfg} : a.sameProcessor b = true ↔
    a.htt = b.htt ∧ a.cmpLegacy = b.cmpLegacy ∧ a.nc = b.nc ∧ a.apicIdCoreIdSize = b.apicIdCoreIdSize ∧
      (a.htt = true → a.logicalProcessorCount = b.logicalProcessorCount) := by
  cases h : a.htt <;> simp [Cfg.sameProcessor, h, and_assoc]

/-- The four conditions on the cores of one processor (10_state.md R22 item 6, R23). -/
theorem processorWellFormed_iff {cfgs : List Cfg} : processorWellFormed cfgs = true ↔
    (∀ a ∈ cfgs, a.wellFormed = true) ∧ (∀ a ∈ cfgs, ∀ b ∈ cfgs, a.sameProcessor b = true) ∧
      (∀ a ∈ cfgs, cfgs.length = a.nc.toNat + 1) ∧ (cfgs.map (fun c => c.localApicId)).Nodup := by
  simp [processorWellFormed, localApicIdsDistinct, and_assoc]

/-- The configuration of every core of a processor is well formed. -/
theorem wellFormed_of_mem_processor {cores : List State} {s : State}
    (h : processorWellFormed (cores.map (fun c => c.cfg)) = true) (hs : s ∈ cores) : s.cfg.wellFormed = true := by
  obtain ⟨hwf, -⟩ := processorWellFormed_iff.1 h
  exact hwf _ (List.mem_map_of_mem hs)

/-! ## The statements -/

/-- Settles O43: ApicIdCoreIdSize decides between NC + 1 and a power of two. -/
theorem maximumNumberOfCores : Obligations.MaximumNumberOfCores := by
  intro s hext
  refine ⟨_, exec_cpuidFn8000_0008 hext, fun hzero => ?_, fun hne => ?_⟩
  · rw [State.completeCpuid_ecx, fn8000_0008_ecx, maximumCores_coreCount, if_pos hzero]
  · rw [State.completeCpuid_ecx, fn8000_0008_ecx, maximumCores_coreCount, if_neg hne]
    exact ⟨rfl, two_pow_bounds hne⟩

/-- Settles O47: a row of Table 3 has NC + 1 cores, and 256 cores do not fit LogicalProcessorCount. -/
theorem coreFieldsAreTable3 : Obligations.CoreFieldsAreTable3 := by
  intro cfg
  constructor
  · intro h
    obtain ⟨-, -, -, hcount⟩ := holdsRow_table3_iff.1 h
    exact ⟨cfg.nc.toNat + 1, by omega, by omega, h⟩
  · rintro ⟨c, hpos, -, hrow⟩
    obtain ⟨-, -, hnc, -⟩ := holdsRow_table3_iff.1 hrow
    have hc : cfg.nc.toNat + 1 = c := by omega
    rwa [Cfg.coresValid, hc]

/-- Settles O48: NC + 1 and, for two cores or more, LogicalProcessorCount are the number of cores; a single core has HTT = 0. -/
theorem softwareCountsCores : Obligations.SoftwareCountsCores := by
  intro s c hwf hrow hpos hext
  obtain ⟨hlegacy, hhtt, hnc, hcount⟩ := holdsRow_table3_iff.1 hrow
  have hcores : s.cfg.nc.toNat + 1 = c := by omega
  have hthreads : threadsPerProcessor (fn0000_0001 s.cfg s.apicEnabled s.draws) = c := by
    rw [threadsPerProcessor_fn0000_0001, hhtt]
    split_ifs with hc
    · exact hcount (of_decide_eq_true hc)
    · have hle : ¬1 < c := by simpa using hc
      omega
  refine ⟨_, _, _, exec_cpuidFn0000_0001 hwf, exec_cpuidFn8000_0001 (isExtended_of_le hext (by decide) (by decide)),
    exec_cpuidFn8000_0008 hext, ?_, hthreads, ?_, ?_⟩
  · rw [State.completeCpuid_ecx, fn8000_0008_ecx, coresPerProcessor_coreCount, hcores]
  · rw [threadsPerCore, State.completeCpuid_regs, hthreads, State.completeCpuid_ecx, fn8000_0008_ecx,
      coresPerProcessor_coreCount, hcores, Nat.div_self hpos]
  · rw [State.completeCpuid_regs, State.completeCpuid_ecx, fn8000_0001_ecx, coresDeprecated_fn0000_0001, hhtt, hlegacy]
    by_cases hc : 1 < c
    · simp [hc, hcount hc, Nat.succ_le_of_lt hc]
    · obtain rfl : c = 1 := by omega
      rfl

/-- Settles O57: with ApicIdCoreIdSize = 0 the two numbers are equal; otherwise the configuration is consistent. -/
theorem coresFitTheMaximum : Obligations.CoresFitTheMaximum := by
  intro s hwf hext
  obtain ⟨-, -, -, -, hfit⟩ := (Cfg.wellFormed_iff s.cfg).1 hwf
  refine ⟨_, exec_cpuidFn8000_0008 hext, ?_⟩
  rw [State.completeCpuid_ecx, fn8000_0008_ecx, coresPerProcessor_coreCount, maximumCores_coreCount]
  split_ifs with hzero
  · exact le_rfl
  · simpa [Cfg.coresFitMaximum, hzero] using hfit

/-- Settles O55: each of the five fields is read from a word that holds it, and is the same on both cores. -/
theorem sameCountsOnEveryCore : Obligations.SameCountsOnEveryCore := by
  intro cores s u hproc hs hu hexts hextu
  obtain ⟨-, hsame, -⟩ := processorWellFormed_iff.1 hproc
  obtain ⟨hhtt, hlegacy, hnc, hsize, hcount⟩ :=
    sameProcessor_iff.1 (hsame s.cfg (List.mem_map_of_mem hs) u.cfg (List.mem_map_of_mem hu))
  refine ⟨_, _, _, _, _, _, exec_cpuidFn0000_0001 (wellFormed_of_mem_processor hproc hs),
    exec_cpuidFn0000_0001 (wellFormed_of_mem_processor hproc hu),
    exec_cpuidFn8000_0001 (isExtended_of_le hexts (by decide) (by decide)),
    exec_cpuidFn8000_0001 (isExtended_of_le hextu (by decide) (by decide)),
    exec_cpuidFn8000_0008 hexts, exec_cpuidFn8000_0008 hextu, ?_⟩
  simp +contextual [feat1D_features, misc1_fields, featXC_fields, coreCount_fields, ← hhtt, hlegacy, hnc, hsize, hcount]

/-- Settles O58: EBX 31:24 is LocalApicId, which no two places of the processor have in common. -/
theorem localApicIdsTellCoresApart : Obligations.LocalApicIdsTellCoresApart := by
  intro cores j k s u hproc hjk hj hk
  obtain ⟨-, -, -, hnodup⟩ := processorWellFormed_iff.1 hproc
  refine ⟨_, _, exec_cpuidFn0000_0001 (wellFormed_of_mem_processor hproc (List.mem_of_getElem? hj)),
    exec_cpuidFn0000_0001 (wellFormed_of_mem_processor hproc (List.mem_of_getElem? hk)), ?_⟩
  obtain ⟨hsId, -⟩ := misc1_fields s.cfg s.draws.ebx
  obtain ⟨huId, -⟩ := misc1_fields u.cfg u.draws.ebx
  rw [State.completeCpuid_ebx, State.completeCpuid_ebx, fn0000_0001_ebx, fn0000_0001_ebx, hsId, huId]
  intro hid
  obtain ⟨hlt, -⟩ := List.getElem?_eq_some_iff.1 hj
  exact hjk ((List.getElem?_inj (by simpa using hlt) hnodup).1 (by simp [hj, hk, hid]))

end Sys2Proof.Machine
end

section
/-! PROOFS. The BIOS and the other cores: the name string that SetNameString takes and the functions return
(70_reset_and_hazards.md R188, R189), steps of different cores (20_memory.md R39), and the cores at reset. -/

namespace Sys2Proof.Machine

/-! ## The name string -/

/-- What the BIOS may program: ASCII with a null byte (70_reset_and_hazards.md R188). -/
theorem programmable_iff {name : NameString} :
    name.programmable = true ↔ (∀ b ∈ name.toList, b.toNat < 128) ∧ 0x00#8 ∈ name.toList := by
  simp only [NameString.programmable, Bool.and_eq_true, List.all_eq_true, decide_eq_true_eq, List.contains_iff_mem,
    BitVec.lt_def, BitVec.toNat_ofNat, Nat.reducePow, Nat.reduceMod]

/-- All that SetNameString can do where it takes the string. -/
theorem State.setNameString_eq_some {s u : State} {name : NameString} (h : s.setNameString name = some u) :
    name.programmable = true ∧ u = { s with nameString := name } := by
  unfold State.setNameString at h
  split_ifs at h with hcond
  cases h
  exact ⟨(Bool.and_eq_true _ _ ▸ hcond).1, rfl⟩

/-- Three functions of sixteen characters spell all 48. -/
theorem nameText_nameWords_append (name : NameString) :
    nameText (nameWords name 0) ++ nameText (nameWords name 16) ++ nameText (nameWords name 32) = name.toList := by
  have hlen : (name.toList.drop 32).length ≤ 16 := by simp
  rw [nameText_nameWords, nameText_nameWords, nameText_nameWords]
  show name.toList.take 16 ++ (name.toList.drop 16).take 16 ++ (name.toList.drop 32).take 16 = name.toList
  rw [List.take_of_length_le hlen, ← List.take_add, List.take_append_drop]

/-- Software stops before a null byte, so it displays fewer characters than the text has. -/
theorem displayName_length_lt {text : List Byte} (h : 0x00#8 ∈ text) : (displayName text).length < text.length := by
  have hprefix : displayName text <+: text := List.takeWhile_prefix _
  refine lt_of_le_of_ne hprefix.length_le fun hlen => ?_
  have hall := List.takeWhile_eq_self_iff.1 (hprefix.eq_of_length hlen) _ h
  simp at hall

/-! ## The cores of a processor -/

/-- The next state of an outcome. -/
def nextState : Host.Outcome State Fault Refusal → Option State
  | .next t => some t
  | .fault _ => none
  | .refused _ => none

/-- A core's step is its own step, put in its place. -/
theorem stepCore_eq (cores : List State) (k : Nat) :
    stepCore cores k = (cores[k]?.bind fun s => nextState (step s)).map (cores.set k) := by
  unfold stepCore
  cases cores[k]? with
  | none => rfl
  | some s =>
    dsimp only [Option.bind_some]
    cases step s <;> rfl

/-- A core that steps is one of the list, and its step replaces it. -/
theorem stepCore_eq_some {cores after : List State} {k : Nat} (h : stepCore cores k = some after) :
    ∃ t, after = cores.set k t := by
  rw [stepCore_eq] at h
  obtain ⟨t, -, rfl⟩ := Option.map_eq_some_iff.1 h
  exact ⟨t, rfl⟩

/-- What another core does after a core has been replaced: the same step, in the replaced list. -/
theorem stepCore_set {cores : List State} {j k : Nat} (hne : j ≠ k) (t : State) :
    stepCore (cores.set j t) k = (cores[k]?.bind fun s => nextState (step s)).map (fun u => (cores.set j t).set k u) := by
  rw [stepCore_eq, List.getElem?_set_ne hne]

/-- The LocalApicIds of the cores at reset are those that the model gives out. -/
theorem map_localApicId_coreCfg :
    (List.range ((Config.coreCfg 0).nc.toNat + 1)).map (fun k => (Config.coreCfg k).localApicId) =
      Config.apicIds ((Config.coreCfg 0).nc.toNat + 1) := by
  refine List.ext_getElem (by simp [Config.apicIds_length]) fun k _ hk => ?_
  rw [List.getElem_map, List.getElem_range]
  exact (List.getElem_eq_getD _).symm

/-! ## The statements -/

/-- Settles O51: the three functions spell the programmed name, which has a null. -/
theorem programmedNameReadsBack : Obligations.ProgrammedNameReadsBack := by
  intro s u name hset hext
  obtain ⟨hname, rfl⟩ := State.setNameString_eq_some hset
  obtain ⟨-, hnull⟩ := programmable_iff.1 hname
  refine ⟨_, _, _, exec_cpuidFn8000_0002 (isExtended_of_le hext (by decide) (by decide)),
    exec_cpuidFn8000_0003 (isExtended_of_le hext (by decide) (by decide)), exec_cpuidFn8000_0004 hext, ?_⟩
  simp only [State.completeCpuid_regs, nameText_nameWords_append, true_and]
  have hlt := displayName_length_lt hnull
  simp only [Vector.length_toList] at hlt
  omega

/-- Settles O52: the check of the string and the count of steps are the stated conditions. -/
theorem setNameStringPrecondition : Obligations.SetNameStringPrecondition := by
  intro s name
  simp [State.setNameString, programmable_iff, and_assoc]

/-- Settles O53: neither core sees that the other has stepped, and replacing two places commutes. -/
theorem coreStepsCommute : Obligations.CoreStepsCommute := by
  intro cores j k hne
  rw [stepCore_eq cores j, stepCore_eq cores k]
  simp only [Option.bind_map, Function.comp_def, stepCore_set hne, stepCore_set hne.symm]
  cases cores[j]?.bind fun s => nextState (step s) with
  | none => simp
  | some t =>
    cases cores[k]?.bind fun s => nextState (step s) with
    | none => simp
    | some u => simp [List.set_comm t u hne]

/-- Settles O54: the step replaces one place of the list. -/
theorem otherCoresUnchanged : Obligations.OtherCoresUnchanged := by
  intro cores after k h
  obtain ⟨t, rfl⟩ := stepCore_eq_some h
  exact ⟨List.length_set, fun j hne => List.getElem?_set_ne hne.symm⟩

/-- Settles O56: the cores have core 0's shared fields, and the LocalApicIds that the model gives out differ. -/
theorem resetProcessorIsWellFormed : Obligations.ResetProcessorIsWellFormed := by
  refine processorWellFormed_iff.2 ?_
  simp only [processorReset, List.map_map, List.forall_mem_map, List.length_map, List.length_range]
  refine ⟨fun k _ => Config.coreCfg_wellFormed k, fun j _ k _ => ?_, fun k _ => rfl, ?_⟩
  · exact sameProcessor_iff.2 ⟨rfl, rfl, rfl, rfl, fun _ => rfl⟩
  · exact map_localApicId_coreCfg ▸ Config.apicIds_nodup _ (by omega)

end Sys2Proof.Machine
end
